-- ==== Sys2Proof/Word.lean ====
section
/-! DEFINITION. The widths of the spec's values: 00_scope.md R9, R13, and the four-byte value of the public
surface (42_bridge_ops.md R77). Every value is unsigned (R13). -/

namespace Sys2Proof

/-- `bit` of R13: the write marker, `ack`, `error`. -/
abbrev Bit := BitVec 1

/-- `u4` of R13: the byte-enable mask, exactly four bits wide (R16, decision D3). -/
abbrev Mask := BitVec 4

/-- `u8` of R13: one byte of a frame. -/
abbrev Byte := BitVec 8

/-- `u32` of R13: an address, a data word, `read_data`. -/
abbrev Word := BitVec 32

/-- `u72` of R13: the filler in front of a response frame. -/
abbrev Filler := BitVec 72

/-- `Bytes` of R13: a byte sequence of any length. A `Frame` is one of length exactly 14. -/
abbrev Bytes := List Byte

/-- The identity of a transport object. The spec gives it no structure (R18), only that a Bridge owns one. -/
abbrev TransportId := Nat

/-- The "4-byte value" that `READ` returns and `WRITE` takes (R75, R76, R77), first byte first. -/
structure Bytes4 where
  b0 : Byte
  b1 : Byte
  b2 : Byte
  b3 : Byte
  deriving DecidableEq, Repr

/-- The four bytes in order. -/
def Bytes4.toList (q : Bytes4) : Bytes := [q.b0, q.b1, q.b2, q.b3]

end Sys2Proof
end

