-- ==== Sys2Proof/Config.lean ====
section
/-! DEFINITION. What is fixed for the machine (00_scope.md R9), the parameters the spec leaves open (R10) and the
one source of free values: what the transport, with the remote behind it, answers (42_bridge_ops.md R72). -/

namespace Sys2Proof

/-- `FRAME_BYTES` of R9. -/
def Config.frameBytes : Nat := 14

/-- `FRAME_BITS` of R9. -/
def Config.frameBits : Nat := 112

/-- `BRIDGE_BE` of R9: the mask the Bridge puts in every command, "all four bytes significant". -/
def Config.bridgeMask : Mask := 0b1111

/-- What polling a transfer gives (R72, R98). -/
inductive Answer where
  /-- The transfer has not returned: the caller stays blocked (R98). -/
  | pending
  /-- "a transport-level error" (R72); the transport's own error is dropped (R81). -/
  | fail
  /-- A whole inbound buffer; any length, since a transport may break its contract (decision D17). -/
  | bytes (inbound : Bytes)
  deriving DecidableEq, Repr, Inhabited

/-- FREE VALUE (Log 5): the answer at a poll, where the environment has scripted none. It may depend on the
transport, on how many draws were made before, and on every frame handed over so far, the present one included
(R72: "everything the transport and the remote have seen before"). It has no body: nothing is known of it. -/
opaque Config.transportAnswer (transport : TransportId) (draws : Nat) (sent : List (TransportId × Bytes)) : Answer

/-- OPEN parameter `BE_LANE_MAP` (R10, decision D10, Log 8): which data byte each mask bit selects. No rule reads
it. -/
opaque Config.beLaneMap : Equiv.Perm (Fin 4)

/-- The values of the open parameter `BUS_GRANULE` (decision D9). -/
inductive BusGranule where
  | byte
  | word
  | unknown
  deriving DecidableEq, Repr, Inhabited

/-- OPEN parameter `BUS_GRANULE` (R10, decision D9, Log 8): what a bus address counts. No rule reads it. -/
opaque Config.busGranule : BusGranule

end Sys2Proof
end

