-- ==== Sys2Proof/Machine/Operands.lean ====
section
/-! DEFINITION. Byte order, bit order and the three frame formats: 00_scope.md R11 to R13, 20_memory.md R28 to R31,
30_encoding.md R45 to R51. Everything that reads or places a field does it through this file. -/

namespace Sys2Proof.Machine

/-- `F[i]` of R13. Every caller has checked the length or built the frame; past the end it reads 0. -/
def byteAt (b : Bytes) (i : Nat) : Byte := b.getD i 0

/-- `fbit(F, k)` of R11: frame bit `k`, bit 0 being the `0x80` bit of `F[0]`. -/
def fbit (b : Bytes) (k : Nat) : Bit := (byteAt b (k / 8) >>> (7 - k % 8)).setWidth 1

/-- `MemRead(i, n)` of R13. -/
def memRead (b : Bytes) (i n : Nat) : Bytes := (b.drop i).take n

/-- `MemWrite(i, n, bytes)` of R13, `n` being the number of bytes given. -/
def memWrite (b : Bytes) (i : Nat) (bytes : Bytes) : Bytes := b.take i ++ bytes ++ b.drop (i + bytes.length)

/-- The buffer an encoder starts from: every bit not placed later is 0 (R53, R54). -/
def zeroFrame : Bytes := List.replicate Config.frameBytes 0

/-- `le32` of R13, R28: least significant byte first. -/
def le32 (v : Word) : Bytes4 :=
  ⟨v.extractLsb' 0 8, v.extractLsb' 8 8, v.extractLsb' 16 8, v.extractLsb' 24 8⟩

/-- `unle32` of R13, R28: `b3 || b2 || b1 || b0`. -/
def unle32 (q : Bytes4) : Word := q.b3 ++ q.b2 ++ q.b1 ++ q.b0

/-- The four bytes from `F[p]`. -/
def bytes4At (b : Bytes) (p : Nat) : Bytes4 :=
  ⟨byteAt b p, byteAt b (p + 1), byteAt b (p + 2), byteAt b (p + 3)⟩

/-- The 32-bit field that begins at byte `p` (R50). -/
def wordAt (b : Bytes) (p : Nat) : Word := unle32 (bytes4At b p)

/-- The low nibble of byte `i`: the mask's place (R49). -/
def maskAt (b : Bytes) (i : Nat) : Mask := (byteAt b i &&& 0x0F).setWidth 4

/-- `zext_8` of R13 for a mask. -/
def zextMask (be : Mask) : Byte := be.setWidth 8

/-- `zext_8` of R13 for a bit. -/
def zextBit (v : Bit) : Byte := v.setWidth 8

/-- The write marker's place: `F[0] & 0x80`, frame bit 0 (R45, R52). -/
def markerBit (b : Bytes) : Bit := (byteAt b 0 >>> 7).setWidth 1

/-- First byte of `address`, formats W and R (R50). -/
def addressByte : Nat := 1

/-- First byte of `data`, format W (R50). -/
def dataByte : Nat := 5

/-- First byte of `read_data`, format S (R50). -/
def readDataByte : Nat := 9

/-- The byte that holds the mask of a command, formats W and R (R49). -/
def commandMaskByte : Nat := 0

/-- The byte that holds `ack`, `error` and the echoed mask of a response, format S (R47, R49). -/
def statusByte : Nat := 13

/-- The filler's nine bytes, most significant first (R51). -/
def fillerBytes (dummy : Filler) : Bytes :=
  (List.range 9).map fun i => dummy.extractLsb' (64 - 8 * i) 8

/-- The filler of a response, read most significant byte first (R51). No decoder reads it; it serves to name the
operand a response frame was built from (R70 d). -/
def fillerOf (b : Bytes) : Filler :=
  byteAt b 0 ++ byteAt b 1 ++ byteAt b 2 ++ byteAt b 3 ++ byteAt b 4 ++ byteAt b 5 ++ byteAt b 6 ++ byteAt b 7 ++
    byteAt b 8

end Sys2Proof.Machine
end

