-- ==== Sys2Proof/Machine/Types.lean ====
section
/-! DEFINITION. The result types of the operations (10_state.md R16, 30_encoding.md R58) and the four failures
(60_exceptions.md R79). -/

namespace Sys2Proof.Machine

/-- The closed set of failures, without payload or number (R79, R84). Each is handed to the caller as the
operation's result; none stops the machine. -/
inductive Failure where
  /-- A decoder's input was not exactly 14 bytes (R65, R80). -/
  | frameError
  /-- The duplex transfer failed at the transport (R81); raised by `READ` as well as `WRITE`. -/
  | badWrite
  /-- The response's `ack` is 0 (R82). -/
  | missingAck
  /-- The response's `ack` is 1 and its `error` is 1 (R83). -/
  | payloadError
  deriving DecidableEq, Repr

/-- The record `DECRSP` returns (R66). -/
structure Response where
  readData : Word
  ack : Bit
  error : Bit
  be : Mask
  deriving DecidableEq, Repr

/-- The record `DECW` returns (R67). -/
structure WriteCommand where
  marker : Bit
  be : Mask
  address : Word
  data : Word
  deriving DecidableEq, Repr

/-- The record `DECR` returns (R68). -/
structure ReadCommand where
  be : Mask
  address : Word
  deriving DecidableEq, Repr

/-- What `CMDKIND` returns (R69). -/
inductive CommandKind where
  | write
  | read
  deriving DecidableEq, Repr

end Sys2Proof.Machine
end

