-- ==== Sys2Proof/Machine/Flags.lean ====
section
/-! DEFINITION. The two flags, `ack` and `error`: fields of a response frame, never stored (10_state.md R22). Where
they stand (30_encoding.md R47) and what the Bridge's step 4 makes of them (42_bridge_ops.md R74). -/

namespace Sys2Proof.Machine

/-- `ack`: frame bit 104, `F[13] & 0x80`. -/
def ackBit (b : Bytes) : Bit := (byteAt b statusByte >>> 7).setWidth 1

/-- `error`: frame bit 105, `F[13] & 0x40`. -/
def errorBit (b : Bytes) : Bit := (byteAt b statusByte >>> 6).setWidth 1

/-- Byte 13 of a response: `(ack << 7) | (error << 6) | be`, bits 106 and 107 zero (R48, R62). -/
def packStatus (ack error : Bit) (be : Mask) : Byte :=
  (zextBit ack <<< 7) ||| (zextBit error <<< 6) ||| zextMask be

/-- Step 4, Validate (R74): `ack` is tested first; nothing else of the record is examined (R78). -/
def validate (rsp : Response) : Except Failure Unit :=
  if rsp.ack = 0 then .error .missingAck
  else if rsp.error = 1 then .error .payloadError
  else .ok ()

end Sys2Proof.Machine
end

