-- ==== Sys2Proof/Machine/Codec.lean ====
section
/-! DEFINITION. The frame codec as pure total functions (10_state.md R15, R16): the three encoders of
40_encode_ops.md and the four decoders of 41_decode_ops.md. The operations' meanings and the Bridge call these. -/

namespace Sys2Proof.Machine

/-- `encode_write` (R60), format W. -/
def encodeWrite (be : Mask) (address data : Word) : Bytes :=
  memWrite
    (memWrite
      (memWrite
        (memWrite zeroFrame commandMaskByte [0x80 ||| zextMask be])
        addressByte (le32 address).toList)
      dataByte (le32 data).toList)
    9 (List.replicate 5 0)

/-- `encode_read` (R61), format R. -/
def encodeRead (be : Mask) (address : Word) : Bytes :=
  memWrite
    (memWrite
      (memWrite zeroFrame commandMaskByte [zextMask be])
      addressByte (le32 address).toList)
    5 (List.replicate 9 0)

/-- The response encoder (R62), format S. -/
def encodeResponse (dummy : Filler) (readData : Word) (ack error : Bit) (be : Mask) : Bytes :=
  memWrite
    (memWrite
      (memWrite zeroFrame 0 (fillerBytes dummy))
      readDataByte (le32 readData).toList)
    statusByte [packStatus ack error be]

/-- The length check common to the four decoders (R65): the first and only check, compared with 14 exactly. -/
def onFrame {α : Type} (b : Bytes) (fields : α) : Except Failure α :=
  if b.length = Config.frameBytes then .ok fields else .error .frameError

/-- `decode_response` (R66), format S. -/
def decodeResponse (b : Bytes) : Except Failure Response :=
  onFrame b ⟨wordAt b readDataByte, ackBit b, errorBit b, maskAt b statusByte⟩

/-- The write command decoder (R67), format W; the marker is reported, not checked. -/
def decodeWrite (b : Bytes) : Except Failure WriteCommand :=
  onFrame b ⟨markerBit b, maskAt b commandMaskByte, wordAt b addressByte, wordAt b dataByte⟩

/-- The read command decoder (R68), format R. -/
def decodeRead (b : Bytes) : Except Failure ReadCommand :=
  onFrame b ⟨maskAt b commandMaskByte, wordAt b addressByte⟩

/-- The marker test (R69, R52). -/
def commandKind (b : Bytes) : Except Failure CommandKind :=
  onFrame b (if markerBit b = 1 then .write else .read)

end Sys2Proof.Machine
end

