-- ==== Sys2Proof/Syntax.lean ====
section
/-! DEFINITION. The eleven operations (00_scope.md R3), one constructor per row of spec/opcode_table.json, with the
operands of 10_state.md R16 and 30_encoding.md R58 in the order given there. -/

namespace Sys2Proof

/-- An operation with its operands, as a caller invokes it. -/
inductive Instr where
  /-- `ENCW be, address, data` (R60). -/
  | encw (be : Mask) (address data : Word)
  /-- `ENCR be, address` (R61). -/
  | encr (be : Mask) (address : Word)
  /-- `ENCRSP dummy, read_data, ack, error, be` (R62). -/
  | encrsp (dummy : Filler) (readData : Word) (ack error : Bit) (be : Mask)
  /-- `DECRSP b` (R66). -/
  | decrsp (b : Bytes)
  /-- `DECW b` (R67). -/
  | decw (b : Bytes)
  /-- `DECR b` (R68). -/
  | decr (b : Bytes)
  /-- `CMDKIND b` (R69). -/
  | cmdkind (b : Bytes)
  /-- `NEW transport` (R71). -/
  | newBridge (transport : TransportId)
  /-- `XFER out` (R72); `out` is a `Frame` (see `Instr.wellFormed`). -/
  | xfer (out : Bytes)
  /-- `READ address` (R75). -/
  | read (address : Word)
  /-- `WRITE address, bytes4` (R76). -/
  | write (address : Word) (data : Bytes4)
  deriving DecidableEq, Repr

end Sys2Proof
end

