-- ==== Sys2Proof/WellFormed.lean ====
section
/-! DEFINITION. The operand checks that the operand types do not already make. All widths are types (10_state.md
R16, decision D3); the decoders take a byte sequence of any length (R65); only `XFER`'s operand has a length:
`out: Frame`, "array of exactly 14 `u8`" (R13, R72). -/

namespace Sys2Proof

/-- A `Frame` of R13: exactly 14 bytes. -/
def isFrame (b : Bytes) : Bool := b.length == Config.frameBytes

/-- The operands are in the operation's domain. -/
def Instr.wellFormed : Instr → Bool
  | .encw _ _ _ => true
  | .encr _ _ => true
  | .encrsp _ _ _ _ _ => true
  | .decrsp _ => true
  | .decw _ => true
  | .decr _ => true
  | .cmdkind _ => true
  | .newBridge _ => true
  | .xfer out => isFrame out
  | .read _ => true
  | .write _ _ => true

end Sys2Proof
end

