-- ==== Sys2Proof/Decode.lean ====
section
/-! DEFINITION. From a caller's request to an operation with its operands, and back. The "instruction words" of
this hardware are its three frames (30_encoding.md), and nothing in a frame names an operation (R52): the caller
names it, and the frame, by the row of spec/opcode_table.json, gives its operands (R59, Log 6). -/

namespace Sys2Proof

open Sys2Proof.Machine

/-- The eleven names of R3, one per row of the table. -/
inductive Op where
  | encw
  | encr
  | encrsp
  | decrsp
  | decw
  | decr
  | cmdkind
  | newBridge
  | xfer
  | read
  | write
  deriving DecidableEq, Repr

/-- What a caller presents: the operation it names, the buffer that carries the operands of that row, and the
transport operand, which only `NEW` has (its row touches no frame). -/
structure Request where
  op : Op
  buffer : Bytes
  transport : TransportId
  deriving DecidableEq, Repr

/-- Why a request is no call of the operation it names. -/
inductive DecodeError where
  /-- The operand of this operation is a frame and the buffer is not exactly 14 bytes (R13, R44). -/
  | notAFrame (op : Op)
  /-- The frame is not one this operation's row can describe: a fixed bit has the wrong value (R53, R59). -/
  | patternMismatch (op : Op)
  deriving DecidableEq, Repr

/-- A string of 28 hexadecimal digits of the table, read as 14 byte pairs, `F[0]` first (R59). -/
def frameOfHex (n : Nat) : Bytes := (List.range 14).map fun i => BitVec.ofNat 8 (n >>> (8 * (13 - i)))

/-- The `mask` of the operation's row. -/
def Op.mask : Op → Bytes
  | .encw => frameOfHex 0xF00000000000000000FFFFFFFFFF
  | .encr => frameOfHex 0xF000000000FFFFFFFFFFFFFFFFFF
  | .encrsp => frameOfHex 0x0000000000000000000000000030
  | .decrsp => frameOfHex 0
  | .decw => frameOfHex 0
  | .decr => frameOfHex 0
  | .cmdkind => frameOfHex 0x8000000000000000000000000000
  | .newBridge => frameOfHex 0
  | .xfer => frameOfHex 0
  | .read => frameOfHex 0xFF00000000FFFFFFFFFFFFFFFFFF
  | .write => frameOfHex 0xFF0000000000000000FFFFFFFFFF

/-- The `match` of the operation's row. -/
def Op.fixed : Op → Bytes
  | .encw => frameOfHex 0x8000000000000000000000000000
  | .encr => frameOfHex 0
  | .encrsp => frameOfHex 0
  | .decrsp => frameOfHex 0
  | .decw => frameOfHex 0
  | .decr => frameOfHex 0
  | .cmdkind => frameOfHex 0x8000000000000000000000000000
  | .newBridge => frameOfHex 0
  | .xfer => frameOfHex 0
  | .read => frameOfHex 0x0F00000000000000000000000000
  | .write => frameOfHex 0x8F00000000000000000000000000

/-- "A buffer `F` matches a row when `F & mask = match`" (R59), for a buffer of the frame length. -/
def Op.fits (op : Op) (b : Bytes) : Bool :=
  isFrame b && decide (List.zipWith (· &&& ·) b op.mask = op.fixed)

/-- The operands of `op` stand in a frame that must fit its row. -/
def framed (op : Op) (b : Bytes) (i : Instr) : Except DecodeError Instr :=
  if isFrame b then
    if op.fits b then .ok i else .error (.patternMismatch op)
  else .error (.notAFrame op)

/-- The operation a request is a call of, operands pulled out; total, rejecting by name. -/
def decode (r : Request) : Except DecodeError Instr :=
  let b := r.buffer
  match r.op with
  | .encw => framed .encw b (.encw (maskAt b commandMaskByte) (wordAt b addressByte) (wordAt b dataByte))
  | .encr => framed .encr b (.encr (maskAt b commandMaskByte) (wordAt b addressByte))
  | .encrsp =>
    framed .encrsp b
      (.encrsp (fillerOf b) (wordAt b readDataByte) (ackBit b) (errorBit b) (maskAt b statusByte))
  | .decrsp => .ok (.decrsp b)
  | .decw => .ok (.decw b)
  | .decr => .ok (.decr b)
  | .cmdkind => .ok (.cmdkind b)
  | .newBridge => .ok (.newBridge r.transport)
  | .xfer => if isFrame b then .ok (.xfer b) else .error (.notAFrame .xfer)
  | .read => framed .read b (.read (wordAt b addressByte))
  | .write => framed .write b (.write (wordAt b addressByte) (bytes4At b dataByte))

/-- The name of an operation. -/
def Instr.op : Instr → Op
  | .encw _ _ _ => .encw
  | .encr _ _ => .encr
  | .encrsp _ _ _ _ _ => .encrsp
  | .decrsp _ => .decrsp
  | .decw _ => .decw
  | .decr _ => .decr
  | .cmdkind _ => .cmdkind
  | .newBridge _ => .newBridge
  | .xfer _ => .xfer
  | .read _ => .read
  | .write _ _ => .write

/-- The buffer that carries the operands, by the `encoding` string of the operation's row (R59). -/
def Instr.buffer : Instr → Bytes
  | .encw be address data => encodeWrite be address data
  | .encr be address => encodeRead be address
  | .encrsp dummy readData ack error be => encodeResponse dummy readData ack error be
  | .decrsp b => b
  | .decw b => b
  | .decr b => b
  | .cmdkind b => b
  | .newBridge _ => []
  | .xfer out => out
  | .read address => encodeRead Config.bridgeMask address
  | .write address data => encodeWrite Config.bridgeMask address (unle32 data)

/-- The transport operand, for `NEW`. -/
def Instr.transportOperand : Instr → TransportId
  | .newBridge transport => transport
  | .encw _ _ _ => 0
  | .encr _ _ => 0
  | .encrsp _ _ _ _ _ => 0
  | .decrsp _ => 0
  | .decw _ => 0
  | .decr _ => 0
  | .cmdkind _ => 0
  | .xfer _ => 0
  | .read _ => 0
  | .write _ _ => 0

/-- The request that calls an operation. -/
def encode (i : Instr) : Request := ⟨i.op, i.buffer, i.transportOperand⟩

/-- The frame whose bits are `w`, the first byte being the least significant eight bits of `w`. -/
def frameOfWord (w : Nat) : Bytes := (List.range 14).map fun k => BitVec.ofNat 8 (w >>> (8 * k))

/-- The operation a bare frame is taken for where no caller names one (Log 7): the row with the most mask bits
among those it fits, and of the rows that test nothing the first of the table that carries a frame. -/
def bareOp (b : Bytes) : Op :=
  if Op.read.fits b then .read
  else if Op.encr.fits b then .encr
  else if Op.write.fits b then .write
  else if Op.encw.fits b then .encw
  else if Op.encrsp.fits b then .encrsp
  else if Op.cmdkind.fits b then .cmdkind
  else .decrsp

/-- A bare table word as a request: a row of no bits is `NEW`, whose row touches no frame (Log 7), on transport 0
(which the Bridge of `State.reset` already holds: Log 16). -/
def tableRequest (nbits w : Nat) : Request :=
  if nbits = 0 then ⟨.newBridge, [], 0⟩ else ⟨bareOp (frameOfWord w), frameOfWord w, 0⟩

/-- The operation this decoder reads from a bare table word. -/
def decodeTableWord (nbits w : Nat) : Option Instr :=
  match decode (tableRequest nbits w) with
  | .ok i => some i
  | .error _ => none

end Sys2Proof
end

