-- ==== Sys2Proof/Machine/State.lean ====
section
/-! DEFINITION. The state: the Bridge's transport handle and phase (10_state.md R17, R18), which is all the spec
gives the machine, and around it the host interface as plain data: the caller's calls to come, the transport's
answers, what was sent and what was returned (95_test_vectors.md Part 3; Log 3, Log 5). -/

namespace Sys2Proof.Machine

/-- A Bridge call and its operands (R75, R76). -/
inductive Call where
  | read (address : Word)
  | write (address : Word) (data : Bytes4)
  deriving DecidableEq, Repr

/-- The six phases of R17, each with the transient values that exist in it (R19). -/
inductive Phase where
  /-- No call in progress. -/
  | idle
  /-- Step 1. -/
  | build (call : Call)
  /-- Step 2: the frame `out` has been handed to the transport and no answer has been taken. `call` is `none`
  where the transfer is an `XFER` of its own (R103, Log 10). -/
  | transfer (call : Option Call) (out : Bytes)
  /-- Step 3: the response buffer as the transport returned it. -/
  | decode (call : Call) (inbound : Bytes)
  /-- Step 4. -/
  | validate (call : Call) (rsp : Response)
  /-- Step 5. -/
  | ret (call : Call) (rsp : Response)
  deriving DecidableEq, Repr

/-- What an operation hands its caller (R16, R58). -/
inductive Result where
  /-- A frame: `ENCW`, `ENCR`, `ENCRSP`. -/
  | frame (f : Bytes)
  | response (r : Response)
  | writeCommand (w : WriteCommand)
  | readCommand (r : ReadCommand)
  | kind (k : CommandKind)
  /-- `NEW`: a Bridge that owns this transport. -/
  | bridge (transport : TransportId)
  /-- `XFER`: the inbound buffer. -/
  | received (inbound : Bytes)
  /-- `XFER`: `Fail`. -/
  | transferFailed
  /-- `READ`: four bytes. -/
  | bytes4 (q : Bytes4)
  /-- `WRITE`: nothing, "success is the signal". -/
  | written
  /-- The operation ended in a failure (R87). -/
  | failed (f : Failure)
  deriving DecidableEq, Repr

/-- The state of the machine and of its host interface. -/
structure State where
  /-- The Bridge's transport handle (R18). -/
  transport : TransportId
  /-- The Bridge's position in a call (R17). -/
  phase : Phase
  /-- Bridges constructed earlier: each keeps its transport and its phase (R18; Log 4). The newest is first. -/
  others : List (TransportId × Phase)
  /-- The caller's calls to come, first first (R21; Log 3). -/
  requests : List Request
  /-- The transport's answers to the next draws, where the environment has scripted them (Log 5). -/
  answers : List Answer
  /-- How many answers have been drawn (Log 5). -/
  draws : Nat
  /-- The frames handed to a transport, in order, with the transport (R39; Log 3). -/
  sent : List (TransportId × Bytes)
  /-- What each finished operation handed its caller, in order (Log 3). -/
  results : List (Op × Result)
  deriving DecidableEq, Repr

/-- The machine at its start: what `NEW` yields (R27, R100), a Bridge in phase `Idle` that owns a transport
(identity 0: Log 1), nothing requested, sent or returned yet (Log 3). -/
def State.reset : State where
  transport := 0
  phase := .idle
  others := []
  requests := []
  answers := []
  draws := 0
  sent := []
  results := []

/-- There is no fault: the hardware has "a closed set of four named failures", each "handed to the caller as that
operation's result" (60_exceptions.md), after which the machine goes on (R87, R89); they are `Failure`s in `results`,
and a transfer that never returns keeps the machine in phase `Transfer` (R98). Safe: nothing stops here. -/
inductive Fault where
  deriving DecidableEq, Repr

/-- Why a step gives an operation no meaning. -/
inductive Refusal where
  /-- Raised by `exec` for an operation that has no meaning yet. No arm does. Safe. -/
  | notModelled (mnemonic : String)
  /-- Raised by `READ`, `WRITE` and `XFER` while a call is in progress: "a model gives it no step" (R102, R95,
  decision D19, U10 `refuse`). Safe: the machine stops where the spec gives no meaning. -/
  | callInProgress
  /-- Raised by `step` for a request that is no call of the operation it names: an operand outside its type
  (decision D3, U14 `refuse`; Log 6). Safe. -/
  | undecodable (why : DecodeError)
  deriving DecidableEq, Repr

end Sys2Proof.Machine
end

