-- ==== Sys2Proof/Machine/Ops.lean ====
section
/-! DEFINITION. The named operations over the state: handing a result to the caller, raising a failure
(60_exceptions.md R87), the transport's oracle (42_bridge_ops.md R72) and the five steps of a Bridge call
(10_state.md R17, 42_bridge_ops.md R73). There is no return from a failure to write beside `State.raise`: "There is
no return-from-trap operation, because there is no handler to return from" (R89). -/

namespace Sys2Proof.Machine

/-! ### One field at a time -/

def State.setTransport (t : TransportId) (s : State) : State := { s with transport := t }

def State.setPhase (p : Phase) (s : State) : State := { s with phase := p }

def State.setOthers (o : List (TransportId × Phase)) (s : State) : State := { s with others := o }

def State.setRequests (r : List Request) (s : State) : State := { s with requests := r }

def State.setAnswers (a : List Answer) (s : State) : State := { s with answers := a }

def State.setDraws (n : Nat) (s : State) : State := { s with draws := n }

def State.setSent (l : List (TransportId × Bytes)) (s : State) : State := { s with sent := l }

def State.setResults (l : List (Op × Result)) (s : State) : State := { s with results := l }

/-! ### Results and failures -/

/-- Hand the caller what operation `op` ended with; nothing else changes (R15, R19). -/
def State.deliver (op : Op) (r : Result) (s : State) : State := s.setResults (s.results ++ [(op, r)])

/-- RAISING A FAILURE, the one shared operation (R87): the operation `op` has ended and its caller gets the
failure's name as the result. "Nothing is saved, because there is nothing to save"; no vector, no mode. A codec
operation leaves the Bridge's phase alone (R15); a Bridge call ends as well (`State.abortCall`). -/
def State.raise (op : Op) (f : Failure) (s : State) : State := s.deliver op (.failed f)

/-- A call or transfer ends with a result, and the phase returns to `Idle` (R17). -/
def State.endCall (op : Op) (r : Result) (s : State) : State := (s.setPhase .idle).deliver op r

/-- A Bridge call is aborted by a failure: "The Bridge's `phase` returns to `Idle` and its transport handle is
unchanged" (R87). -/
def State.abortCall (op : Op) (f : Failure) (s : State) : State := (s.setPhase .idle).raise op f

/-- What a codec operation does: it hands over its value, or it raises its failure. -/
def State.conclude {α : Type} (op : Op) (wrap : α → Result) (v : Except Failure α) (s : State) : State :=
  match v with
  | .ok x => s.deliver op (wrap x)
  | .error f => s.raise op f

/-! ### The transport (R72) -/

/-- The answer the next draw gives: scripted by the environment where it is, else the free value (Log 5). -/
def State.nextAnswer (s : State) : Answer :=
  match s.answers with
  | a :: _ => a
  | [] => Config.transportAnswer s.transport s.draws s.sent

/-- The state after one answer has been drawn. -/
def State.drawn (s : State) : State := (s.setAnswers s.answers.tail).setDraws (s.draws + 1)

/-- The frame is handed to the Bridge's transport as it is (R32, R105). -/
def State.handOver (out : Bytes) (s : State) : State := s.setSent (s.sent ++ [(s.transport, out)])

/-- A transfer begins: the frame is handed over and the phase is `Transfer` until an answer comes (R98). -/
def State.beginTransfer (call : Option Call) (out : Bytes) (s : State) : State :=
  (s.handOver out).setPhase (.transfer call out)

/-! ### The five steps of a call (R17, R73) -/

/-- The operation a call is. -/
def Call.op : Call → Op
  | .read _ => .read
  | .write _ _ => .write

/-- Step 1, Build: the command frame of the call, mask `1111` (R75, R76). -/
def Call.command : Call → Bytes
  | .read address => encodeRead Config.bridgeMask address
  | .write address data => encodeWrite Config.bridgeMask address (unle32 data)

/-- Step 5, Return: `le32(read_data)` for `READ` (R75, R77), nothing for `WRITE` (R76). -/
def Call.success (rsp : Response) : Call → Result
  | .read _ => .bytes4 (le32 rsp.readData)
  | .write _ _ => .written

/-- Step 1: build the command and go on to step 2. "step 1, Build, cannot fail" (R39). -/
def State.buildStep (s : State) : State :=
  match s.phase with
  | .build call => s.beginTransfer (some call) call.command
  | _ => s

/-- What an answer to a transfer does (R72, R73, R98): none, and the transfer stays in progress; `Fail`, and the
call ends in `BadWrite` (R81); a buffer, and step 3 follows. An `XFER` of its own ends with the answer. -/
def State.takeAnswer (call : Option Call) (a : Answer) (s : State) : State :=
  match a, call with
  | .pending, _ => s
  | .fail, none => s.endCall .xfer .transferFailed
  | .fail, some c => s.abortCall c.op .badWrite
  | .bytes inbound, none => s.endCall .xfer (.received inbound)
  | .bytes inbound, some c => s.setPhase (.decode c inbound)

/-- Step 2: one draw of the transport's answer. -/
def State.transferStep (s : State) : State :=
  match s.phase with
  | .transfer call _ => s.drawn.takeAnswer call s.nextAnswer
  | _ => s

/-- Step 3: one `DECRSP`; its failure passes through unchanged (R73, R80). -/
def State.decodeStep (s : State) : State :=
  match s.phase with
  | .decode call inbound =>
    match decodeResponse inbound with
    | .ok rsp => s.setPhase (.validate call rsp)
    | .error f => s.abortCall call.op f
  | _ => s

/-- Step 4 (R74). -/
def State.validateStep (s : State) : State :=
  match s.phase with
  | .validate call rsp =>
    match validate rsp with
    | .ok _ => s.setPhase (.ret call rsp)
    | .error f => s.abortCall call.op f
  | _ => s

/-- Step 5. -/
def State.returnStep (s : State) : State :=
  match s.phase with
  | .ret call rsp => s.endCall call.op (call.success rsp)
  | _ => s

/-- One step of R17 by itself, whichever the phase names. -/
def State.advance (s : State) : State :=
  match s.phase with
  | .idle => s
  | .build _ => s.buildStep
  | .transfer _ _ => s.transferStep
  | .decode _ _ => s.decodeStep
  | .validate _ _ => s.validateStep
  | .ret _ _ => s.returnStep

/-- The rest of the call from its phase on, as one transition ("A model may represent a whole call as one
transition", R17): it stops in `Transfer` where the transport has not answered and in `Idle` otherwise. -/
def State.continueCall (s : State) : State := s.buildStep.transferStep.decodeStep.validateStep.returnStep

/-- Start a Bridge call; the precondition of R75 and R76 is that no other call is in progress (R102). -/
def startCall (call : Call) (s : State) : Host.Outcome State Fault Refusal :=
  if s.phase = .idle then .next (s.setPhase (.build call)).continueCall
  else .refused .callInProgress

/-- Start a transfer by itself; the transport is in use while a call is in progress (R95, R103). -/
def startTransfer (out : Bytes) (s : State) : Host.Outcome State Fault Refusal :=
  if s.phase = .idle then .next (s.beginTransfer none out).continueCall
  else .refused .callInProgress

/-- Construct a Bridge that owns `transport` (R71); the Bridge in use before keeps its transport and its phase
(R18, R98) and is no longer the one in use (Log 4). No transfer is made. DESIGN CHOICE, unsafe (Log 16): where a
Bridge already holds `transport` ("exclusively held, not shared", R18, R92, R103) the spec gives the handing over no
meaning; this constructs the second Bridge all the same, and both then hold the one identity. -/
def State.construct (transport : TransportId) (s : State) : State :=
  ((s.setOthers ((s.transport, s.phase) :: s.others)).setTransport transport).setPhase .idle

/-! ### The caller's next call -/

/-- Present a request as the caller's very next call, with no other call in progress. -/
def State.present (r : Request) (s : State) : State := (s.setRequests (r :: s.requests)).setPhase .idle

end Sys2Proof.Machine
end

