-- ==== Sys2Proof/Machine/BridgeOps.lean ====
section
/-! DEFINITION. The Bridge family (42_bridge_ops.md). -/

namespace Sys2Proof.Machine

/-- `NEW` (R71): it cannot fail and performs no transfer. On a transport a Bridge already holds: DESIGN CHOICE,
Log 16. -/
def execNewBridge (transport : TransportId) (s : State) : Host.Outcome State Fault Refusal :=
  .next ((s.construct transport).deliver .newBridge (.bridge transport))

/-- `XFER` (R72): one duplex transfer on the transport, its answer handed to the caller (Log 10). -/
def execXfer (out : Bytes) (s : State) : Host.Outcome State Fault Refusal := startTransfer out s

/-- `READ` (R75). -/
def execRead (address : Word) (s : State) : Host.Outcome State Fault Refusal := startCall (.read address) s

/-- `WRITE` (R76). -/
def execWrite (address : Word) (data : Bytes4) (s : State) : Host.Outcome State Fault Refusal :=
  startCall (.write address data) s

end Sys2Proof.Machine
end

