-- ==== Sys2Proof/Machine/DecodeOps.lean ====
section
/-! DEFINITION. The decode family (41_decode_ops.md): `FrameError` exactly where the buffer is not 14 bytes (R65),
else the fields; pure, no effect but the result or failure handed to the caller (R15, R70). -/

namespace Sys2Proof.Machine

/-- `DECRSP` (R66). -/
def execDecrsp (b : Bytes) (s : State) : Host.Outcome State Fault Refusal :=
  .next (s.conclude .decrsp .response (decodeResponse b))

/-- `DECW` (R67). -/
def execDecw (b : Bytes) (s : State) : Host.Outcome State Fault Refusal :=
  .next (s.conclude .decw .writeCommand (decodeWrite b))

/-- `DECR` (R68). -/
def execDecr (b : Bytes) (s : State) : Host.Outcome State Fault Refusal :=
  .next (s.conclude .decr .readCommand (decodeRead b))

/-- `CMDKIND` (R69). -/
def execCmdkind (b : Bytes) (s : State) : Host.Outcome State Fault Refusal :=
  .next (s.conclude .cmdkind .kind (commandKind b))

end Sys2Proof.Machine
end

