-- ==== Sys2Proof/Machine/EncodeOps.lean ====
section
/-! DEFINITION. The encode family (40_encode_ops.md): total and pure, no failure, no effect but the result handed
to the caller (R63, R15). -/

namespace Sys2Proof.Machine

/-- `ENCW` (R60). -/
def execEncw (be : Mask) (address data : Word) (s : State) : Host.Outcome State Fault Refusal :=
  .next (s.deliver .encw (.frame (encodeWrite be address data)))

/-- `ENCR` (R61). -/
def execEncr (be : Mask) (address : Word) (s : State) : Host.Outcome State Fault Refusal :=
  .next (s.deliver .encr (.frame (encodeRead be address)))

/-- `ENCRSP` (R62). -/
def execEncrsp (dummy : Filler) (readData : Word) (ack error : Bit) (be : Mask) (s : State) :
    Host.Outcome State Fault Refusal :=
  .next (s.deliver .encrsp (.frame (encodeResponse dummy readData ack error be)))

end Sys2Proof.Machine
end

