-- ==== Sys2Proof/Machine/Dispatch.lean ====
section
/-! DEFINITION. One arm per operation of the table, each one call of its meaning. -/

namespace Sys2Proof.Machine

def exec (i : Instr) (s : State) : Host.Outcome State Fault Refusal :=
  match i with
  | .encw be address data => Sys2Proof.Machine.execEncw be address data s
  | .encr be address => Sys2Proof.Machine.execEncr be address s
  | .encrsp dummy readData ack error be => Sys2Proof.Machine.execEncrsp dummy readData ack error be s
  | .decrsp b => Sys2Proof.Machine.execDecrsp b s
  | .decw b => Sys2Proof.Machine.execDecw b s
  | .decr b => Sys2Proof.Machine.execDecr b s
  | .cmdkind b => Sys2Proof.Machine.execCmdkind b s
  | .newBridge transport => Sys2Proof.Machine.execNewBridge transport s
  | .xfer out => Sys2Proof.Machine.execXfer out s
  | .read address => Sys2Proof.Machine.execRead address s
  | .write address data => Sys2Proof.Machine.execWrite address data s

end Sys2Proof.Machine
end

