-- ==== Sys2Proof/Machine/Step.lean ====
section
/-! DEFINITION. One step: with no call in progress the caller's next request is decoded and run (R21, R95); with a
call in progress it goes on, and no request is looked at (R98, R102). There is no fetch in this hardware (R42). -/

namespace Sys2Proof.Machine

/-- One step of the machine. Idle with nothing requested, it stays as it is: "the hardware has no halt". -/
def step (s : State) : Host.Outcome State Fault Refusal :=
  match s.phase with
  | .idle =>
    match s.requests with
    | [] => .next s
    | r :: rest =>
      match decode r with
      | .ok i => exec i (s.setRequests rest)
      | .error why => .refused (.undecodable why)
  | _ => .next s.continueCall

/-- The state whose very next step runs the operation `decodeTableWord` reads from the table word: the caller
presents it, and no call is in progress (Log 7). -/
def State.withFetchWord (s : State) (nbits w : Nat) : State := s.present (tableRequest nbits w)

end Sys2Proof.Machine
end

