-- ==== Sys2Proof/Safety.lean ====
section
/-! DEFINITION. The terms claims are made in: the named premises on the oracle (92_eei_decisions.md, "Open
parameters, collected"), what an answer must make of a call, written from the rules in frame-bit numbering and not
from the machine's steps, and the invariants of the machine. -/

namespace Sys2Proof

/-! ### Families -/

/-- The seven codec operations (R15). -/
def Op.isCodec : Op → Bool
  | .encw => true
  | .encr => true
  | .encrsp => true
  | .decrsp => true
  | .decw => true
  | .decr => true
  | .cmdkind => true
  | .newBridge => false
  | .xfer => false
  | .read => false
  | .write => false

/-- The operations that make a duplex transfer (R36, R72). -/
def Op.transfers : Op → Bool
  | .encw => false
  | .encr => false
  | .encrsp => false
  | .decrsp => false
  | .decw => false
  | .decr => false
  | .cmdkind => false
  | .newBridge => false
  | .xfer => true
  | .read => true
  | .write => true

end Sys2Proof

namespace Sys2Proof.Machine

/-! ### Premises on the oracle -/

/-- `TransportConforms` for one answer (R72): every answer that is not `Fail` has length 14. -/
def conforms : Answer → Bool
  | .pending => true
  | .fail => true
  | .bytes inbound => isFrame inbound

/-- `TransportReturns` for one answer (R98): the transfer answers. -/
def returns : Answer → Bool
  | .pending => false
  | .fail => true
  | .bytes _ => true

/-- The answer drawn first after `out` has been handed to the transport in `s`. -/
def State.answerTo (out : Bytes) (s : State) : Answer := (s.handOver out).nextAnswer

/-! ### What a call must end with -/

/-- The outcome of a call by its answer, failures in step order (R73, R74, R75, R76, R86); none while the transport
has not answered (R98). -/
def expectedResult (call : Call) : Answer → Option Result
  | .pending => none
  | .fail => some (.failed .badWrite)
  | .bytes r =>
    if r.length ≠ 14 then some (.failed .frameError)
    else if fbit r 104 = 0 then some (.failed .missingAck)
    else if fbit r 105 = 1 then some (.failed .payloadError)
    else
      match call with
      | .read _ => some (.bytes4 ⟨byteAt r 9, byteAt r 10, byteAt r 11, byteAt r 12⟩)
      | .write _ _ => some .written

/-- The outcome of an `XFER` of its own by its answer (R72). -/
def expectedTransfer : Answer → Option Result
  | .pending => none
  | .fail => some .transferFailed
  | .bytes r => some (.received r)

/-- The state a call or transfer leaves, from the state `s` in which its command has been handed over: one answer
drawn; ended with the result in the caller's hands, or still in `Transfer`. -/
def State.settled (op : Op) (waiting : Phase) (r : Option Result) (s : State) : State :=
  match r with
  | some x => { s with
      phase := .idle, answers := s.answers.tail, draws := s.draws + 1, results := s.results ++ [(op, x)] }
  | none => { s with phase := waiting, answers := s.answers.tail, draws := s.draws + 1 }

/-- The operation that makes a call (R75, R76). -/
def Call.instr : Call → Instr
  | .read address => .read address
  | .write address data => .write address data

/-! ### Invariants -/

/-- The frame in flight is the one its call built, and the last one the transport was handed (R19, R105). -/
def State.commandUnchanged (s : State) : Prop :=
  match s.phase with
  | .transfer call out =>
    s.sent.getLast? = some (s.transport, out) ∧ ∀ c, call = some c → out = c.command
  | _ => True

/-- Every frame handed to a transport is exactly 14 bytes (R44). -/
def State.framesWhole (s : State) : Prop := ∀ e ∈ s.sent, e.2.length = 14

/-- How many frames a phase accounts for that no result accounts for yet. -/
def Phase.inFlight : Phase → Nat
  | .idle => 0
  | .build _ => 0
  | .transfer _ _ => 1
  | .decode _ _ => 1
  | .validate _ _ => 1
  | .ret _ _ => 1

/-- One transfer per call: the frames handed over are as many as the ended transferring operations and the ones in
flight together, none merged, repeated or omitted (R39, R73). -/
def State.oneTransferPerCall (s : State) : Prop :=
  s.sent.length =
    (s.results.countP fun e => Op.transfers e.1) + s.phase.inFlight + (s.others.map fun o => o.2.inFlight).sum

end Sys2Proof.Machine
end

