-- ==== Sys2Proof/Certificates/Slice0/Obligations.lean ====
section
/-! DEFINITION. The statements for the provers, from the numbered rules of spec/. A result is stated as the whole
next state, so that each says its frame as well; frame bits are numbered as in 00_scope.md R11. -/

open Sys2Proof Sys2Proof.Machine Host

/-! ### The start -/

/-- R27, R100: at its start the Bridge is in phase `Idle`; it owns the transport the model names (Log 1), and nothing
is requested, scripted, sent or returned (the model's own fields: Log 3, Log 4, Log 5). -/
def Obligations.ResetIsAnIdleBridge : Prop :=
  Sys2Proof.core.reset.phase = Phase.idle ∧ State.reset.transport = 0 ∧ State.reset.others = [] ∧
    State.reset.requests = [] ∧ State.reset.answers = [] ∧ State.reset.draws = 0 ∧ State.reset.sent = [] ∧
    State.reset.results = []

/-! ### Encode family -/

/-- R60: the frame `ENCW` gives, byte by byte, in every state and for every operand; nothing else changes. -/
def Obligations.EncwGivesTheWriteFrame : Prop :=
  ∀ (be : Mask) (a d : Word) (s : State),
    exec (.encw be a d) s = .next { s with
      results := s.results ++ [(.encw, .frame
        [0x80 ||| be.setWidth 8,
          a.extractLsb' 0 8, a.extractLsb' 8 8, a.extractLsb' 16 8, a.extractLsb' 24 8,
          d.extractLsb' 0 8, d.extractLsb' 8 8, d.extractLsb' 16 8, d.extractLsb' 24 8,
          0x00, 0x00, 0x00, 0x00, 0x00])] }

/-- R61: the frame `ENCR` gives, byte by byte. -/
def Obligations.EncrGivesTheReadFrame : Prop :=
  ∀ (be : Mask) (a : Word) (s : State),
    exec (.encr be a) s = .next { s with
      results := s.results ++ [(.encr, .frame
        [be.setWidth 8,
          a.extractLsb' 0 8, a.extractLsb' 8 8, a.extractLsb' 16 8, a.extractLsb' 24 8,
          0x00, 0x00, 0x00, 0x00, 0x00, 0x00, 0x00, 0x00, 0x00])] }

/-- R62 with R51 (decisions D5, D6 of the spec): the frame `ENCRSP` gives, byte by byte. -/
def Obligations.EncrspGivesTheResponseFrame : Prop :=
  ∀ (u : Filler) (r : Word) (k e : Bit) (be : Mask) (s : State),
    exec (.encrsp u r k e be) s = .next { s with
      results := s.results ++ [(.encrsp, .frame
        [u.extractLsb' 64 8, u.extractLsb' 56 8, u.extractLsb' 48 8, u.extractLsb' 40 8, u.extractLsb' 32 8,
          u.extractLsb' 24 8, u.extractLsb' 16 8, u.extractLsb' 8 8, u.extractLsb' 0 8,
          r.extractLsb' 0 8, r.extractLsb' 8 8, r.extractLsb' 16 8, r.extractLsb' 24 8,
          (k.setWidth 8 <<< 7) ||| (e.setWidth 8 <<< 6) ||| be.setWidth 8])] }

/-- R63: the encoders are total and pure (one frame, whatever the state), the frame has length 14 and every reserved
bit 0, nothing that exists is altered; the Bridge's Build cannot fail. -/
def Obligations.EncodersTotalPureCanonical : Prop :=
  (∀ (be : Mask) (a d : Word), ∃ f : Bytes,
    (∀ s, exec (.encw be a d) s = .next { s with results := s.results ++ [(.encw, .frame f)] }) ∧
      f.length = 14 ∧ ∀ k, (1 ≤ k ∧ k ≤ 3) ∨ (72 ≤ k ∧ k ≤ 111) → fbit f k = 0) ∧
  (∀ (be : Mask) (a : Word), ∃ f : Bytes,
    (∀ s, exec (.encr be a) s = .next { s with results := s.results ++ [(.encr, .frame f)] }) ∧
      f.length = 14 ∧ ∀ k, k ≤ 3 ∨ (40 ≤ k ∧ k ≤ 111) → fbit f k = 0) ∧
  (∀ (u : Filler) (r : Word) (k e : Bit) (be : Mask), ∃ f : Bytes,
    (∀ s, exec (.encrsp u r k e be) s = .next { s with results := s.results ++ [(.encrsp, .frame f)] }) ∧
      f.length = 14 ∧ fbit f 106 = 0 ∧ fbit f 107 = 0) ∧
  (∀ (c : Call) (s : State), s.phase = .build c →
    s.advance = { s with
      phase := .transfer (some c) c.command, sent := s.sent ++ [(s.transport, c.command)] })

/-- R64 (a), (b): different operands give different frames, and no write command is a read command: frame bit 0
tells them apart. -/
def Obligations.EncodersInjectiveAndDisjoint : Prop :=
  (∀ (be be' : Mask) (a a' d d' : Word), encodeWrite be a d = encodeWrite be' a' d' →
    be = be' ∧ a = a' ∧ d = d') ∧
  (∀ (be be' : Mask) (a a' : Word), encodeRead be a = encodeRead be' a' → be = be' ∧ a = a') ∧
  (∀ (u u' : Filler) (r r' : Word) (k k' e e' : Bit) (be be' : Mask),
    encodeResponse u r k e be = encodeResponse u' r' k' e' be' →
      u = u' ∧ r = r' ∧ k = k' ∧ e = e' ∧ be = be') ∧
  (∀ (be : Mask) (a d : Word), fbit (encodeWrite be a d) 0 = 1) ∧
  (∀ (be : Mask) (a : Word), fbit (encodeRead be a) 0 = 0)

/-- R64 (c): running the decoder of its format on the frame an encoder gave recovers every operand, and `CMDKIND`
tells the two commands apart (R69); in any two states. -/
def Obligations.DecodersUndoEncoders : Prop :=
  (∀ (be : Mask) (a d : Word) (s s' : State), ∃ f : Bytes,
    exec (.encw be a d) s = .next { s with results := s.results ++ [(.encw, .frame f)] } ∧
    exec (.decw f) s' = .next { s' with results := s'.results ++ [(.decw, .writeCommand ⟨1, be, a, d⟩)] } ∧
    exec (.cmdkind f) s' = .next { s' with results := s'.results ++ [(.cmdkind, .kind .write)] }) ∧
  (∀ (be : Mask) (a : Word) (s s' : State), ∃ f : Bytes,
    exec (.encr be a) s = .next { s with results := s.results ++ [(.encr, .frame f)] } ∧
    exec (.decr f) s' = .next { s' with results := s'.results ++ [(.decr, .readCommand ⟨be, a⟩)] } ∧
    exec (.cmdkind f) s' = .next { s' with results := s'.results ++ [(.cmdkind, .kind .read)] }) ∧
  (∀ (u : Filler) (r : Word) (k e : Bit) (be : Mask) (s s' : State), ∃ f : Bytes,
    exec (.encrsp u r k e be) s = .next { s with results := s.results ++ [(.encrsp, .frame f)] } ∧
    exec (.decrsp f) s' = .next { s' with results := s'.results ++ [(.decrsp, .response ⟨r, k, e, be⟩)] })

/-! ### Field placement -/

/-- R28: the three 32-bit fields are little-endian in their four bytes, on encode and on decode; the source's
example. -/
def Obligations.WordFieldsAreLittleEndian : Prop :=
  (∀ (be : Mask) (a d : Word),
    memRead (encodeWrite be a d) 1 4 =
      [a.extractLsb' 0 8, a.extractLsb' 8 8, a.extractLsb' 16 8, a.extractLsb' 24 8] ∧
    memRead (encodeWrite be a d) 5 4 =
      [d.extractLsb' 0 8, d.extractLsb' 8 8, d.extractLsb' 16 8, d.extractLsb' 24 8] ∧
    memRead (encodeRead be a) 1 4 =
      [a.extractLsb' 0 8, a.extractLsb' 8 8, a.extractLsb' 16 8, a.extractLsb' 24 8]) ∧
  (∀ (u : Filler) (r : Word) (k e : Bit) (be : Mask),
    memRead (encodeResponse u r k e be) 9 4 =
      [r.extractLsb' 0 8, r.extractLsb' 8 8, r.extractLsb' 16 8, r.extractLsb' 24 8]) ∧
  (∀ (b : Bytes) (w : WriteCommand), decodeWrite b = .ok w →
    memRead b 1 4 = [w.address.extractLsb' 0 8, w.address.extractLsb' 8 8, w.address.extractLsb' 16 8,
      w.address.extractLsb' 24 8] ∧
    memRead b 5 4 = [w.data.extractLsb' 0 8, w.data.extractLsb' 8 8, w.data.extractLsb' 16 8,
      w.data.extractLsb' 24 8]) ∧
  (∀ (b : Bytes) (c : ReadCommand), decodeRead b = .ok c →
    memRead b 1 4 = [c.address.extractLsb' 0 8, c.address.extractLsb' 8 8, c.address.extractLsb' 16 8,
      c.address.extractLsb' 24 8]) ∧
  (∀ (b : Bytes) (r : Response), decodeResponse b = .ok r →
    memRead b 9 4 = [r.readData.extractLsb' 0 8, r.readData.extractLsb' 8 8, r.readData.extractLsb' 16 8,
      r.readData.extractLsb' 24 8]) ∧
  (∀ (be : Mask) (d : Word),
    memRead (encodeWrite be 0x12345678 d) 1 4 = [0x78, 0x56, 0x34, 0x12] ∧
    memRead (encodeRead be 0x12345678) 1 4 = [0x78, 0x56, 0x34, 0x12])

/-- R50: byte by byte and bit by bit on encode, as a sum on decode. -/
def Obligations.WordFieldPlacement : Prop :=
  (∀ (be : Mask) (a d : Word) (u : Filler) (r : Word) (k e : Bit),
    (∀ i, i < 4 →
      byteAt (encodeWrite be a d) (1 + i) = a.extractLsb' (8 * i) 8 ∧
      byteAt (encodeRead be a) (1 + i) = a.extractLsb' (8 * i) 8 ∧
      byteAt (encodeWrite be a d) (5 + i) = d.extractLsb' (8 * i) 8 ∧
      byteAt (encodeResponse u r k e be) (9 + i) = r.extractLsb' (8 * i) 8) ∧
    (∀ j, j < 32 →
      fbit (encodeWrite be a d) (8 * (1 + j / 8) + 7 - j % 8) = a.extractLsb' j 1 ∧
      fbit (encodeRead be a) (8 * (1 + j / 8) + 7 - j % 8) = a.extractLsb' j 1 ∧
      fbit (encodeWrite be a d) (8 * (5 + j / 8) + 7 - j % 8) = d.extractLsb' j 1 ∧
      fbit (encodeResponse u r k e be) (8 * (9 + j / 8) + 7 - j % 8) = r.extractLsb' j 1)) ∧
  (∀ (b : Bytes) (w : WriteCommand), decodeWrite b = .ok w →
    w.address.toNat = (byteAt b 1).toNat + 2 ^ 8 * (byteAt b 2).toNat + 2 ^ 16 * (byteAt b 3).toNat +
      2 ^ 24 * (byteAt b 4).toNat ∧
    w.data.toNat = (byteAt b 5).toNat + 2 ^ 8 * (byteAt b 6).toNat + 2 ^ 16 * (byteAt b 7).toNat +
      2 ^ 24 * (byteAt b 8).toNat) ∧
  (∀ (b : Bytes) (c : ReadCommand), decodeRead b = .ok c →
    c.address.toNat = (byteAt b 1).toNat + 2 ^ 8 * (byteAt b 2).toNat + 2 ^ 16 * (byteAt b 3).toNat +
      2 ^ 24 * (byteAt b 4).toNat) ∧
  (∀ (b : Bytes) (r : Response), decodeResponse b = .ok r →
    r.readData.toNat = (byteAt b 9).toNat + 2 ^ 8 * (byteAt b 10).toNat + 2 ^ 16 * (byteAt b 11).toNat +
      2 ^ 24 * (byteAt b 12).toNat)

/-- R49 (bit order: the spec's decision D4): mask bit `3 - i` is frame bit `4 + i` of a command and `108 + i` of a
response, on encode and on decode. -/
def Obligations.MaskPlacement : Prop :=
  ∀ i, i < 4 →
    (∀ (be : Mask) (a d : Word) (u : Filler) (r : Word) (k e : Bit),
      fbit (encodeWrite be a d) (4 + i) = be.extractLsb' (3 - i) 1 ∧
      fbit (encodeRead be a) (4 + i) = be.extractLsb' (3 - i) 1 ∧
      fbit (encodeResponse u r k e be) (108 + i) = be.extractLsb' (3 - i) 1) ∧
    (∀ (b : Bytes) (w : WriteCommand), decodeWrite b = .ok w → w.be.extractLsb' (3 - i) 1 = fbit b (4 + i)) ∧
    (∀ (b : Bytes) (c : ReadCommand), decodeRead b = .ok c → c.be.extractLsb' (3 - i) 1 = fbit b (4 + i)) ∧
    (∀ (b : Bytes) (r : Response), decodeResponse b = .ok r → r.be.extractLsb' (3 - i) 1 = fbit b (108 + i))

/-- R51 (the spec's decision D6): filler bit `71 - k` is frame bit `k`, and no decode result depends on it. -/
def Obligations.FillerPlacement : Prop :=
  ∀ (u u' : Filler) (r : Word) (k e : Bit) (be : Mask),
    (∀ i, i < 9 → byteAt (encodeResponse u r k e be) i = u.extractLsb' (64 - 8 * i) 8) ∧
    (∀ j, j < 72 → fbit (encodeResponse u r k e be) j = u.extractLsb' (71 - j) 1) ∧
    ∀ s, exec (.decrsp (encodeResponse u r k e be)) s = exec (.decrsp (encodeResponse u' r k e be)) s

/-- R22, R47: `ack` is response frame bit 104 and `error` bit 105: `ENCRSP` copies them there and `DECRSP` extracts
them from there, all four combinations alike. -/
def Obligations.FlagsAreResponseBits : Prop :=
  (∀ (u : Filler) (r : Word) (k e : Bit) (be : Mask),
    fbit (encodeResponse u r k e be) 104 = k ∧ fbit (encodeResponse u r k e be) 105 = e) ∧
  (∀ (b : Bytes) (r : Response), decodeResponse b = .ok r → r.ack = fbit b 104 ∧ r.error = fbit b 105)

/-! ### Decode family -/

/-- R65 (for `DECW`, `DECR`, `CMDKIND` the spec's decision D5): a decoder fails, with `FrameError`, exactly where the
buffer is not 14 bytes long. -/
def Obligations.DecodersCheckTheLengthAlone : Prop :=
  ∀ (b : Bytes) (s : State),
    (b.length ≠ 14 →
      exec (.decrsp b) s = .next { s with results := s.results ++ [(.decrsp, .failed .frameError)] } ∧
      exec (.decw b) s = .next { s with results := s.results ++ [(.decw, .failed .frameError)] } ∧
      exec (.decr b) s = .next { s with results := s.results ++ [(.decr, .failed .frameError)] } ∧
      exec (.cmdkind b) s = .next { s with results := s.results ++ [(.cmdkind, .failed .frameError)] }) ∧
    (b.length = 14 →
      (∃ r, exec (.decrsp b) s = .next { s with results := s.results ++ [(.decrsp, .response r)] }) ∧
      (∃ w, exec (.decw b) s = .next { s with results := s.results ++ [(.decw, .writeCommand w)] }) ∧
      (∃ c, exec (.decr b) s = .next { s with results := s.results ++ [(.decr, .readCommand c)] }) ∧
      (∃ k, exec (.cmdkind b) s = .next { s with results := s.results ++ [(.cmdkind, .kind k)] }))

/-- R66: the fields `DECRSP` returns of any 14 bytes, and its one failure. -/
def Obligations.DecrspReadsTheResponse : Prop :=
  (∀ (b0 b1 b2 b3 b4 b5 b6 b7 b8 b9 b10 b11 b12 b13 : Byte) (s : State),
    exec (.decrsp [b0, b1, b2, b3, b4, b5, b6, b7, b8, b9, b10, b11, b12, b13]) s = .next { s with
      results := s.results ++ [(.decrsp, .response
        { readData := b12 ++ b11 ++ b10 ++ b9, ack := (b13 >>> 7).setWidth 1, error := (b13 >>> 6).setWidth 1,
          be := (b13 &&& 0x0F).setWidth 4 })] }) ∧
  (∀ (b : Bytes) (s : State), b.length ≠ 14 →
    exec (.decrsp b) s = .next { s with results := s.results ++ [(.decrsp, .failed .frameError)] })

/-- R67, R68, R69 (the spec's decision D5): the fields the command decoders return of any 14 bytes; the marker is
reported and tested by nobody but `CMDKIND`. -/
def Obligations.CommandDecodersReadTheCommand : Prop :=
  ∀ (b0 b1 b2 b3 b4 b5 b6 b7 b8 b9 b10 b11 b12 b13 : Byte) (s : State),
    exec (.decw [b0, b1, b2, b3, b4, b5, b6, b7, b8, b9, b10, b11, b12, b13]) s = .next { s with
      results := s.results ++ [(.decw, .writeCommand
        { marker := (b0 >>> 7).setWidth 1, be := (b0 &&& 0x0F).setWidth 4, address := b4 ++ b3 ++ b2 ++ b1,
          data := b8 ++ b7 ++ b6 ++ b5 })] } ∧
    exec (.decr [b0, b1, b2, b3, b4, b5, b6, b7, b8, b9, b10, b11, b12, b13]) s = .next { s with
      results := s.results ++ [(.decr, .readCommand
        { be := (b0 &&& 0x0F).setWidth 4, address := b4 ++ b3 ++ b2 ++ b1 })] } ∧
    exec (.cmdkind [b0, b1, b2, b3, b4, b5, b6, b7, b8, b9, b10, b11, b12, b13]) s = .next { s with
      results := s.results ++ [(.cmdkind, .kind
        (if (b0 >>> 7).setWidth 1 = (1 : Bit) then .write else .read))] }

/-- R54: reserved bits are 0 on encode and ignored on decode, the response's dummy bits as well: two buffers of 14
bytes that agree on the bits a format calls fields give its decoder the same result, and no bit of them is an error. -/
def Obligations.ReservedBitsZeroOnEncodeIgnoredOnDecode : Prop :=
  (∀ (be : Mask) (a d : Word) (k : Nat), (1 ≤ k ∧ k ≤ 3) ∨ (72 ≤ k ∧ k ≤ 111) → fbit (encodeWrite be a d) k = 0) ∧
  (∀ (be : Mask) (a : Word) (k : Nat), k ≤ 3 ∨ (40 ≤ k ∧ k ≤ 111) → fbit (encodeRead be a) k = 0) ∧
  (∀ (u : Filler) (r : Word) (ack error : Bit) (be : Mask) (k : Nat), k = 106 ∨ k = 107 →
    fbit (encodeResponse u r ack error be) k = 0) ∧
  (∀ (b b' : Bytes) (s : State), b.length = 14 → b'.length = 14 →
    ((∀ k, k = 0 ∨ (4 ≤ k ∧ k ≤ 71) → fbit b k = fbit b' k) → exec (.decw b) s = exec (.decw b') s) ∧
    ((∀ k, 4 ≤ k ∧ k ≤ 39 → fbit b k = fbit b' k) → exec (.decr b) s = exec (.decr b') s) ∧
    ((∀ k, (72 ≤ k ∧ k ≤ 105) ∨ (108 ≤ k ∧ k ≤ 111) → fbit b k = fbit b' k) →
      exec (.decrsp b) s = exec (.decrsp b') s) ∧
    (fbit b 0 = fbit b' 0 → exec (.cmdkind b) s = exec (.cmdkind b') s)) ∧
  (∀ (b : Bytes) (s : State), b.length = 14 →
    (∃ w, exec (.decw b) s = .next { s with results := s.results ++ [(.decw, .writeCommand w)] }) ∧
    (∃ c, exec (.decr b) s = .next { s with results := s.results ++ [(.decr, .readCommand c)] }) ∧
    (∃ r, exec (.decrsp b) s = .next { s with results := s.results ++ [(.decrsp, .response r)] }))

/-- R56: every one of the 16 masks is encoded, and decoded as it was given, in all three formats; the Bridge's
commands carry `0b1111`. -/
def Obligations.EveryMaskIsLegal : Prop :=
  (∀ (be : Mask) (a d : Word) (u : Filler) (r : Word) (k e : Bit),
    (∃ w, decodeWrite (encodeWrite be a d) = .ok w ∧ w.be = be) ∧
    (∃ c, decodeRead (encodeRead be a) = .ok c ∧ c.be = be) ∧
    (∃ x, decodeResponse (encodeResponse u r k e be) = .ok x ∧ x.be = be)) ∧
  (∀ (c : Call) (s t : State), exec c.instr s = .next t →
    ∃ f x, t.sent = s.sent ++ [(s.transport, f)] ∧ decodeRead f = .ok x ∧ x.be = 0b1111)

/-- R53: the frames that fit a format's match and mask are exactly the ones its encoder gives. -/
def Obligations.CanonicalFramesAreTheEncoderRanges : Prop :=
  ∀ f : Bytes,
    (Op.encw.fits f = true ↔ ∃ be a d, f = encodeWrite be a d) ∧
    (Op.encr.fits f = true ↔ ∃ be a, f = encodeRead be a) ∧
    (Op.encrsp.fits f = true ↔ ∃ u r k e be, f = encodeResponse u r k e be)

/-- R70 (d): encode after decode recovers a buffer of 14 bytes exactly where it is canonical for the format. -/
def Obligations.ReencodingRecoversCanonicalBuffersOnly : Prop :=
  ∀ b : Bytes, b.length = 14 →
    (∃ w, decodeWrite b = .ok w ∧
      (encodeWrite w.be w.address w.data = b ↔ byteAt b 0 &&& 0xF0 = 0x80 ∧ b.drop 9 = List.replicate 5 0)) ∧
    (∃ c, decodeRead b = .ok c ∧
      (encodeRead c.be c.address = b ↔ byteAt b 0 &&& 0xF0 = 0x00 ∧ b.drop 5 = List.replicate 9 0)) ∧
    (∃ r, decodeResponse b = .ok r ∧
      (encodeResponse (fillerOf b) r.readData r.ack r.error r.be = b ↔ byteAt b 13 &&& 0x30 = 0))

/-- R15: a codec operation is a function of its operands alone, and changes nothing: one result, whatever the state
(and so whatever the Bridge's phase); seen through `READ`, the same read against the same response bytes gives the
same result. -/
def Obligations.CodecOperationsArePure : Prop :=
  (∀ i : Instr, i.op.isCodec = true →
    ∃ r : Result, ∀ s : State, exec i s = .next { s with results := s.results ++ [(i.op, r)] }) ∧
  (∀ (a : Word) (s s' : State) (r : Bytes), s.phase = .idle → s'.phase = .idle →
    s.answerTo (encodeRead 0b1111 a) = .bytes r → s'.answerTo (encodeRead 0b1111 a) = .bytes r →
    ∃ x t t', exec (.read a) s = .next t ∧ t.results = s.results ++ [(.read, x)] ∧
      exec (.read a) s' = .next t' ∧ t'.results = s'.results ++ [(.read, x)])

/-! ### Requests -/

/-- R58, R59 (Log 6): every well-formed operation is read back from the request that calls it. -/
def Obligations.DecodeOfEncodeIsTheOperation : Prop :=
  ∀ i : Instr, i.wellFormed = true → decode (encode i) = .ok i

/-- R59 (Log 6): what is decoded is well-formed, names the operation the request named, and no bit of the request's
buffer is dropped: encoding it again gives the buffer back (`NEW` reads no buffer, only its transport operand). -/
def Obligations.DecodeDropsNoBit : Prop :=
  ∀ (r : Request) (i : Instr), decode r = .ok i →
    i.wellFormed = true ∧ i.op = r.op ∧
    (r.op ≠ .newBridge → (encode i).buffer = r.buffer) ∧
    (r.op = .newBridge → (encode i).transport = r.transport)

/-- Words written out from R45 to R48 decode to the operations they stand for; a reserved bit set is refused by
name. -/
def Obligations.WordsDecodeAsWrittenOut : Prop :=
  decode ⟨.encw, [0x83, 0xA5, 0xA5, 0xA5, 0xA5, 0x04, 0x03, 0x02, 0x01, 0, 0, 0, 0, 0], 0⟩ =
    .ok (.encw 0b0011 0xA5A5A5A5 0x01020304) ∧
  decode ⟨.encrsp, [0x11, 0x22, 0x33, 0x44, 0x55, 0x66, 0x77, 0x88, 0x99, 0x0D, 0xF0, 0xFE, 0xCA, 0xC9], 0⟩ =
    .ok (.encrsp 0x112233445566778899 0xCAFEF00D 1 1 0b1001) ∧
  decode ⟨.write, [0x8F, 0x84, 0x71, 0x03, 0, 0x68, 0x68, 0x75, 0x62, 0, 0, 0, 0, 0], 0⟩ =
    .ok (.write 0x00037184 ⟨0x68, 0x68, 0x75, 0x62⟩) ∧
  decode ⟨.encr, [0x1F, 0, 0, 0, 0, 0, 0, 0, 0, 0, 0, 0, 0, 0], 0⟩ = .error (.patternMismatch .encr)

/-- A step runs the decoded operation: idle, the caller's next request is taken and run; a request that is no call of
its operation is refused; with nothing requested nothing changes; with a call in progress the call goes on. Requests
are the model's choice (Log 3, Log 6), and so is that an `XFER` of its own is in progress like a call while it waits
(Log 10). -/
def Obligations.StepRunsTheDecodedOperation : Prop :=
  (∀ (s : State) (r : Request) (rest : List Request) (i : Instr), s.phase = .idle → s.requests = r :: rest →
    decode r = .ok i → step s = exec i { s with requests := rest }) ∧
  (∀ (s : State) (r : Request) (rest : List Request) (why : DecodeError), s.phase = .idle →
    s.requests = r :: rest → decode r = .error why → step s = .refused (.undecodable why)) ∧
  (∀ s : State, s.phase = .idle → s.requests = [] → step s = .next s) ∧
  (∀ s : State, s.phase ≠ .idle → step s = .next s.continueCall)

/-! ### Bridge family -/

/-- R71: `NEW` gives an idle Bridge that owns the transport; no transfer is made; the Bridge in use before keeps its
transport and its phase (the model's choice: Log 4). That it does so for a transport some Bridge already holds as well
is the model's choice (Log 16), no rule of the spec. -/
def Obligations.NewConstructsAnIdleBridge : Prop :=
  ∀ (t : TransportId) (s : State),
    exec (.newBridge t) s = .next { s with
      transport := t, phase := .idle, others := (s.transport, s.phase) :: s.others,
      results := s.results ++ [(.newBridge, .bridge t)] }

/-- R75 (returned byte order: the spec's decision D8): one command frame with mask `1111`, one draw, and the outcome
the answer gives. -/
def Obligations.ReadOutcome : Prop :=
  ∀ (a : Word) (s : State), s.phase = .idle →
    let out : Bytes := [0x0F, a.extractLsb' 0 8, a.extractLsb' 8 8, a.extractLsb' 16 8, a.extractLsb' 24 8,
      0, 0, 0, 0, 0, 0, 0, 0, 0]
    exec (.read a) s = .next
      (State.settled .read (.transfer (some (.read a)) out) (expectedResult (.read a) (s.answerTo out))
        { s with sent := s.sent ++ [(s.transport, out)] })

/-- R76 (byte order of the four bytes: the spec's decision D8): the same for `WRITE`; the four bytes given are frame
bytes 5 to 8 in order. -/
def Obligations.WriteOutcome : Prop :=
  ∀ (a : Word) (d0 d1 d2 d3 : Byte) (s : State), s.phase = .idle →
    let out : Bytes := [0x8F, a.extractLsb' 0 8, a.extractLsb' 8 8, a.extractLsb' 16 8, a.extractLsb' 24 8,
      d0, d1, d2, d3, 0, 0, 0, 0, 0]
    exec (.write a ⟨d0, d1, d2, d3⟩) s = .next
      (State.settled .write (.transfer (some (.write a ⟨d0, d1, d2, d3⟩)) out)
        (expectedResult (.write a ⟨d0, d1, d2, d3⟩) (s.answerTo out))
        { s with sent := s.sent ++ [(s.transport, out)] })

/-- R72 (Log 10): an `XFER` of its own hands the frame over unchanged, draws one answer and gives it to the caller. -/
def Obligations.XferOutcome : Prop :=
  ∀ (out : Bytes) (s : State), s.phase = .idle →
    exec (.xfer out) s = .next
      (State.settled .xfer (.transfer none out) (expectedTransfer (s.answerTo out))
        { s with sent := s.sent ++ [(s.transport, out)] })

/-- R72, R75, R76: where the transport answers with 14 bytes whose `ack` is 1 and `error` 0, `READ` completes with
response bytes 9 to 12, `WRITE` with nothing, and `XFER`, as an operation of its own (Log 10), with the buffer (of any
length and content). -/
def Obligations.TransfersComplete : Prop :=
  (∀ (a : Word) (s : State) (r : Bytes), s.phase = .idle → s.answerTo (encodeRead 0b1111 a) = .bytes r →
    r.length = 14 → fbit r 104 = 1 → fbit r 105 = 0 →
    exec (.read a) s = .next { s with
      answers := s.answers.tail, draws := s.draws + 1,
      sent := s.sent ++ [(s.transport, encodeRead 0b1111 a)],
      results := s.results ++ [(.read, .bytes4 ⟨byteAt r 9, byteAt r 10, byteAt r 11, byteAt r 12⟩)] }) ∧
  (∀ (a : Word) (d : Bytes4) (s : State) (r : Bytes), s.phase = .idle →
    s.answerTo (encodeWrite 0b1111 a (unle32 d)) = .bytes r → r.length = 14 → fbit r 104 = 1 → fbit r 105 = 0 →
    exec (.write a d) s = .next { s with
      answers := s.answers.tail, draws := s.draws + 1,
      sent := s.sent ++ [(s.transport, encodeWrite 0b1111 a (unle32 d))],
      results := s.results ++ [(.write, .written)] }) ∧
  (∀ (out : Bytes) (s : State) (r : Bytes), s.phase = .idle → s.answerTo out = .bytes r →
    exec (.xfer out) s = .next { s with
      answers := s.answers.tail, draws := s.draws + 1, sent := s.sent ++ [(s.transport, out)],
      results := s.results ++ [(.xfer, .received r)] })

/-- R74: what Validate makes of the decoded record, and nothing else of it: `MissingAck` where `ack` is 0 (whatever
`error` is), else `PayloadError` where `error` is 1, else success. -/
def Obligations.ValidateTestsAckFirst : Prop :=
  ∀ (s : State) (c : Call) (rsp : Response), s.phase = .validate c rsp →
    (rsp.ack = 0 → step s = .next { s with
      phase := .idle, results := s.results ++ [(c.op, .failed .missingAck)] }) ∧
    (rsp.ack = 1 → rsp.error = 1 → step s = .next { s with
      phase := .idle, results := s.results ++ [(c.op, .failed .payloadError)] }) ∧
    (rsp.ack = 1 → rsp.error = 0 → step s = .next { s with
      phase := .idle, results := s.results ++ [(c.op, c.success rsp)] })

/-- R86: the failure reported is the first in step order, and a call reports exactly one outcome. -/
def Obligations.FirstFailureInStepOrderIsReported : Prop :=
  ∀ (c : Call) (s : State), s.phase = .idle →
    (s.answerTo c.command = .fail →
      ∃ t, exec c.instr s = .next t ∧ t.results = s.results ++ [(c.op, .failed .badWrite)]) ∧
    (∀ r, s.answerTo c.command = .bytes r → r.length ≠ 14 →
      ∃ t, exec c.instr s = .next t ∧ t.results = s.results ++ [(c.op, .failed .frameError)]) ∧
    (∀ r, s.answerTo c.command = .bytes r → r.length = 14 → fbit r 104 = 0 →
      ∃ t, exec c.instr s = .next t ∧ t.results = s.results ++ [(c.op, .failed .missingAck)]) ∧
    (∀ r, s.answerTo c.command = .bytes r → r.length = 14 → fbit r 104 = 1 → fbit r 105 = 1 →
      ∃ t, exec c.instr s = .next t ∧ t.results = s.results ++ [(c.op, .failed .payloadError)]) ∧
    (s.answerTo c.command ≠ .pending →
      ∃ t x, exec c.instr s = .next t ∧ t.phase = .idle ∧ t.results = s.results ++ [(c.op, x)])

/-- R82: a call ends in `MissingAck` exactly where a 14-byte response came with `ack` 0, whatever its `error`; the
state left is the same for every such response: nothing of it is recorded. -/
def Obligations.MissingAckExactlyWithoutAck : Prop :=
  ∀ (c : Call) (s : State), s.phase = .idle →
    (exec c.instr s = .next { s with
        answers := s.answers.tail, draws := s.draws + 1, sent := s.sent ++ [(s.transport, c.command)],
        results := s.results ++ [(c.op, .failed .missingAck)] } ↔
      ∃ r, s.answerTo c.command = .bytes r ∧ r.length = 14 ∧ fbit r 104 = 0)

/-- R83: a call ends in `PayloadError` exactly where a 14-byte response came with `ack` 1 and `error` 1; nothing of
the response is recorded. -/
def Obligations.PayloadErrorExactlyOnAckWithError : Prop :=
  ∀ (c : Call) (s : State), s.phase = .idle →
    (exec c.instr s = .next { s with
        answers := s.answers.tail, draws := s.draws + 1, sent := s.sent ++ [(s.transport, c.command)],
        results := s.results ++ [(c.op, .failed .payloadError)] } ↔
      ∃ r, s.answerTo c.command = .bytes r ∧ r.length = 14 ∧ fbit r 104 = 1 ∧ fbit r 105 = 1)

/-- R80, R81: a call ends in `BadWrite` exactly where the transfer failed, and in `FrameError` exactly where the
response is not 14 bytes long, which a conforming transport excludes. -/
def Obligations.TransportFailuresExactly : Prop :=
  ∀ (c : Call) (s t : State), s.phase = .idle → exec c.instr s = .next t →
    (t.results = s.results ++ [(c.op, .failed .badWrite)] ↔ s.answerTo c.command = .fail) ∧
    (t.results = s.results ++ [(c.op, .failed .frameError)] ↔
      ∃ r, s.answerTo c.command = .bytes r ∧ r.length ≠ 14) ∧
    (conforms (s.answerTo c.command) = true → t.results ≠ s.results ++ [(c.op, .failed .frameError)])

/-- R87: whatever the failure, the operation's caller gets its name and nothing else is left: for a decoder the
results alone change; for a call the phase is `Idle`, the handle is unchanged, exactly one frame was handed over,
and no more than that and the draw has happened. -/
def Obligations.FailureLeavesNothingBehind : Prop :=
  (∀ (i : Instr) (f : Failure) (s t : State), i.op.isCodec = true → exec i s = .next t →
    t.results = s.results ++ [(i.op, .failed f)] →
      t = { s with results := s.results ++ [(i.op, .failed f)] }) ∧
  (∀ (c : Call) (f : Failure) (s t : State), s.phase = .idle → exec c.instr s = .next t →
    t.results = s.results ++ [(c.op, .failed f)] →
      t = { s with
        phase := .idle, answers := s.answers.tail, draws := s.draws + 1,
        sent := s.sent ++ [(s.transport, c.command)], results := s.results ++ [(c.op, .failed f)] })

/-- R78: fields the Bridge does not check do not matter: `READ` depends on response frame bits 72 to 105 alone and
`WRITE` on bits 104 and 105 alone. -/
def Obligations.UncheckedResponseBitsDoNotMatter : Prop :=
  ∀ (s : State) (r r' : Bytes) (rest : List Answer), r.length = 14 → r'.length = 14 →
    ((∀ k, 72 ≤ k ∧ k ≤ 105 → fbit r k = fbit r' k) →
      ∀ a, exec (.read a) { s with answers := .bytes r :: rest } =
        exec (.read a) { s with answers := .bytes r' :: rest }) ∧
    ((fbit r 104 = fbit r' 104 ∧ fbit r 105 = fbit r' 105) →
      ∀ a d, exec (.write a d) { s with answers := .bytes r :: rest } =
        exec (.write a d) { s with answers := .bytes r' :: rest })

/-- R33 (decision D9): no result of a call is decided by its address: given the answer, every address gives the same
result, and every address is carried whole. -/
def Obligations.AddressNeverDecidesTheResult : Prop :=
  ∀ (s : State) (x : Answer) (rest : List Answer), s.phase = .idle → s.answers = x :: rest → returns x = true →
    (∃ res, ∀ a, ∃ t, exec (.read a) s = .next t ∧ t.results = s.results ++ [(.read, res)] ∧
      ∃ c, (t.sent.getLast?.map fun e => decodeRead e.2) = some (.ok c) ∧ c.address = a) ∧
    (∃ res, ∀ a d, ∃ t, exec (.write a d) s = .next t ∧ t.results = s.results ++ [(.write, res)] ∧
      ∃ w, (t.sent.getLast?.map fun e => decodeWrite e.2) = some (.ok w) ∧ w.address = a ∧ w.data = unle32 d)

/-- R98, R102, R103: while the transfer has not returned the call stays in `Transfer` with everything else as it was,
no other call is accepted, and it leaves `Transfer` as soon as, and only when, the transport answers. That an `XFER` of
its own occupies `Transfer` with no call is the model's choice (Log 10), and so is that a call or an `XFER` begun
meanwhile is refused by the name `callInProgress` (Log 13, Log 10). -/
def Obligations.OnlyAnAnswerEndsATransfer : Prop :=
  ∀ (s : State) (call : Option Call) (out : Bytes), s.phase = .transfer call out →
    (s.nextAnswer = .pending → step s = .next { s with answers := s.answers.tail, draws := s.draws + 1 }) ∧
    (s.nextAnswer ≠ .pending → ∃ t, step s = .next t ∧ t.phase = .idle) ∧
    (∀ a, exec (.read a) s = .refused .callInProgress) ∧
    (∀ a d, exec (.write a d) s = .refused .callInProgress) ∧
    (∀ o, exec (.xfer o) s = .refused .callInProgress)

/-- R98, R102: with a call in progress no other begins: the Bridge calls are refused, and no step takes a request.
That the refusal is the one named `callInProgress` is the model's reading of D19 (Log 13); that the same holds while an
`XFER` of its own is in progress, phase `Transfer` with no call, is the model's choice (Log 10). -/
def Obligations.NoCallBeginsDuringAnother : Prop :=
  ∀ s : State, s.phase ≠ .idle →
    (∀ a, exec (.read a) s = .refused .callInProgress) ∧
    (∀ a d, exec (.write a d) s = .refused .callInProgress) ∧
    (∃ t, step s = .next t ∧ t.requests = s.requests)

/-- R72, R73, R98: a call that had to wait ends, once the transport answers, as it would have at once. The second
clause says so of an `XFER` of its own: that it waits in phase `Transfer` with no call and hands its answer to the
caller is the model's choice (Log 10). -/
def Obligations.WaitingChangesNoOutcome : Prop :=
  (∀ (s : State) (c : Call) (out : Bytes), s.phase = .transfer (some c) out →
    step s = .next (State.settled c.op (.transfer (some c) out) (expectedResult c s.nextAnswer) s)) ∧
  (∀ (s : State) (out : Bytes), s.phase = .transfer none out →
    step s = .next (State.settled .xfer (.transfer none out) (expectedTransfer s.nextAnswer) s))

/-- R17: a call as one transition is the five steps one after the other, Build first; where the transport has not
answered it is the first two. -/
def Obligations.AtomicCallIsTheFiveSteps : Prop :=
  ∀ (c : Call) (s : State), s.phase = .idle →
    (s.answerTo c.command ≠ .pending →
      exec c.instr s = .next (State.advance^[5] { s with phase := .build c })) ∧
    (s.answerTo c.command = .pending →
      exec c.instr s = .next (State.advance^[2] { s with phase := .build c }))

/-! ### The whole machine -/

/-- R18, R71: no step but one that runs `NEW` changes the transport the Bridge owns, and the Bridge it replaces in
use keeps its own. -/
def Obligations.OnlyNewChangesTheHandle : Prop :=
  (∀ (i : Instr) (s t : State), exec i s = .next t →
    (i.op ≠ .newBridge → t.transport = s.transport ∧ t.others = s.others) ∧
    (i.op = .newBridge → t.others = (s.transport, s.phase) :: s.others)) ∧
  (∀ s t : State, step s = .next t → t.transport ≠ s.transport →
    ∃ r rest h, s.phase = .idle ∧ s.requests = r :: rest ∧ decode r = .ok (.newBridge h) ∧ t.transport = h)

/-- R36, R39, R73 for `READ` and `WRITE`, R72 for `XFER`: an operation that makes a transfer hands exactly one frame,
its own, to the transport and draws exactly one answer; every other operation leaves the transport alone. No operation
touches the caller's other requests, and each leaves the results it found. That an `XFER` of its own runs on the
transport of the Bridge in use is the model's choice (Log 10); the lists are its records (Log 3, Log 5). -/
def Obligations.ExactlyOneTransferOrNone : Prop :=
  ∀ (i : Instr) (s t : State), exec i s = .next t →
    (i.op.transfers = true →
      t.sent = s.sent ++ [(s.transport, i.buffer)] ∧ t.draws = s.draws + 1 ∧ t.answers = s.answers.tail) ∧
    (i.op.transfers = false → t.sent = s.sent ∧ t.draws = s.draws ∧ t.answers = s.answers) ∧
    t.requests = s.requests ∧ ∃ r, t.results = s.results ++ r ∧ r.length ≤ 1

/-- R36, R39 for `READ` and `WRITE`, R72 for `XFER`: call order is transfer order. A step takes at most the caller's
first request, and in that same step hands over exactly that request's own frame (none where its operation makes no
transfer), behind every earlier one; with a call in progress no request is taken, and the only frame a step can add is
that call's own, from `Build`. Results are only added, at most one. The lists are the model's records (Log 3), and
requests are its choice (Log 6); so is that an `XFER` of its own sends on the transport of the Bridge in use, and
counts as a call in progress while it waits in `Transfer` with no call (Log 10). -/
def Obligations.StepsKeepCallOrder : Prop :=
  ∀ s t : State, step s = .next t →
    (∀ r rest, s.phase = .idle → s.requests = r :: rest →
      ∃ i, decode r = .ok i ∧ t.requests = rest ∧
        t.sent = s.sent ++ (if i.op.transfers = true then [(s.transport, i.buffer)] else []) ∧
        ∃ x, t.results = s.results ++ x ∧ x.length ≤ 1 ∧ ∀ e ∈ x, e.1 = i.op) ∧
    (s.phase = .idle → s.requests = [] → t = s) ∧
    (s.phase ≠ .idle → t.requests = s.requests ∧
      (t.sent = s.sent ∨ ∃ c, s.phase = .build c ∧ t.sent = s.sent ++ [(s.transport, c.command)]) ∧
      ∃ x, t.results = s.results ++ x ∧ x.length ≤ 1)

/-- R79, R87: the machine stops nowhere but at a request that is no call of the operation it names: every other state
has a next one. Requests are the model's choice (Log 3, Log 6). -/
def Obligations.OnlyAnUndecodableRequestStops : Prop :=
  ∀ s : State,
    (∃ t, step s = .next t) ∨
      ∃ r rest why, s.phase = .idle ∧ s.requests = r :: rest ∧ decode r = .error why ∧
        step s = .refused (.undecodable why)

/-- R105: the frame in flight stays the one its call built and the last one handed over, along every step; of an
`XFER` of its own (no call: Log 10) the last one handed over. -/
def Obligations.StepKeepsCommandUnchanged : Prop :=
  ∀ s t : State, s.commandUnchanged → step s = .next t → t.commandUnchanged

/-- R44: every frame the transport is handed is exactly 14 bytes, along every step; the frame of an `XFER` of its own
(Log 10) as well, since a request with a buffer of another length is refused (Log 6). -/
def Obligations.StepKeepsFramesWhole : Prop :=
  ∀ s t : State, s.framesWhole → step s = .next t → t.framesWhole

/-- R39, R73: one transfer per call, none merged, repeated or omitted, along every step; an `XFER` of its own counts
as one (Log 10), and a call of an older Bridge stays in flight (Log 4). -/
def Obligations.StepKeepsOneTransferPerCall : Prop :=
  ∀ s t : State, s.oneTransferPerCall → step s = .next t → t.oneTransferPerCall

/-- The invariants hold at the start. -/
def Obligations.ResetMeetsTheInvariants : Prop :=
  State.reset.commandUnchanged ∧ State.reset.framesWhole ∧ State.reset.oneTransferPerCall
end

