-- ==== Sys2Proof/Laws/Operands.lean ====
section
/-! SUPPORT. What the byte-order helpers and the frame formats do, once: the frames byte by byte (30_encoding.md
R48), the two byte orders inverse to one another (00_scope.md R13). -/

namespace Sys2Proof.Machine

open Sys2Proof

/-! ### Byte order -/

theorem unle32_toNat (q : Bytes4) :
    (unle32 q).toNat = q.b0.toNat + 256 * q.b1.toNat + 65536 * q.b2.toNat + 16777216 * q.b3.toNat := by
  have h0 := q.b0.isLt
  have h1 := q.b1.isLt
  have h2 := q.b2.isLt
  simp only [unle32, BitVec.toNat_append]
  rw [← Nat.shiftLeft_add_eq_or_of_lt h0, ← Nat.shiftLeft_add_eq_or_of_lt h1,
    ← Nat.shiftLeft_add_eq_or_of_lt h2]
  simp only [Nat.shiftLeft_eq]
  omega

theorem unle32_le32 (v : Word) : unle32 (le32 v) = v := by
  apply BitVec.eq_of_toNat_eq
  have := v.isLt
  rw [unle32_toNat]
  simp only [le32, BitVec.extractLsb'_toNat, Nat.shiftRight_eq_div_pow]
  omega

theorem le32_unle32 (q : Bytes4) : le32 (unle32 q) = q := by
  have h0 := q.b0.isLt
  have h1 := q.b1.isLt
  have h2 := q.b2.isLt
  have h3 := q.b3.isLt
  have h : ∀ k : Nat, ((unle32 q).extractLsb' k 8).toNat = (unle32 q).toNat / 2 ^ k % 2 ^ 8 := by
    intro k
    rw [BitVec.extractLsb'_toNat, Nat.shiftRight_eq_div_pow]
  obtain ⟨q0, q1, q2, q3⟩ := q
  simp only [le32, Bytes4.mk.injEq]
  refine ⟨?_, ?_, ?_, ?_⟩ <;>
  · apply BitVec.eq_of_toNat_eq
    rw [h, unle32_toNat]
    simp only at h0 h1 h2 h3 ⊢
    omega

/-! ### Frames byte by byte (R48) -/

theorem encodeWrite_bytes (be : Mask) (a d : Word) :
    encodeWrite be a d =
      [0x80 ||| zextMask be, (le32 a).b0, (le32 a).b1, (le32 a).b2, (le32 a).b3, (le32 d).b0, (le32 d).b1,
        (le32 d).b2, (le32 d).b3, 0, 0, 0, 0, 0] := rfl

theorem encodeRead_bytes (be : Mask) (a : Word) :
    encodeRead be a =
      [zextMask be, (le32 a).b0, (le32 a).b1, (le32 a).b2, (le32 a).b3, 0, 0, 0, 0, 0, 0, 0, 0, 0] := rfl

theorem encodeResponse_bytes (u : Filler) (r : Word) (k e : Bit) (be : Mask) :
    encodeResponse u r k e be =
      [u.extractLsb' 64 8, u.extractLsb' 56 8, u.extractLsb' 48 8, u.extractLsb' 40 8, u.extractLsb' 32 8,
        u.extractLsb' 24 8, u.extractLsb' 16 8, u.extractLsb' 8 8, u.extractLsb' 0 8, (le32 r).b0, (le32 r).b1,
        (le32 r).b2, (le32 r).b3, packStatus k e be] := rfl

theorem encodeWrite_length (be : Mask) (a d : Word) : (encodeWrite be a d).length = 14 := rfl

theorem encodeRead_length (be : Mask) (a : Word) : (encodeRead be a).length = 14 := rfl

theorem encodeResponse_length (u : Filler) (r : Word) (k e : Bit) (be : Mask) :
    (encodeResponse u r k e be).length = 14 := rfl

/-! ### The length check (R65) -/

theorem onFrame_ok {α : Type} {b : Bytes} (h : b.length = 14) (x : α) : onFrame b x = .ok x := if_pos h

theorem onFrame_error {α : Type} {b : Bytes} (h : b.length ≠ 14) (x : α) : onFrame b x = .error .frameError :=
  if_neg h

/-- A buffer of the frame length is fourteen bytes in a row. -/
theorem frame_cases {b : Bytes} (h : b.length = 14) :
    ∃ b0 b1 b2 b3 b4 b5 b6 b7 b8 b9 b10 b11 b12 b13 : Byte,
      b = [b0, b1, b2, b3, b4, b5, b6, b7, b8, b9, b10, b11, b12, b13] := by
  match b, h with
  | [b0, b1, b2, b3, b4, b5, b6, b7, b8, b9, b10, b11, b12, b13], _ =>
    exact ⟨b0, b1, b2, b3, b4, b5, b6, b7, b8, b9, b10, b11, b12, b13, rfl⟩

end Sys2Proof.Machine
end

