-- ==== Sys2Proof/Laws/State.lean ====
section
/-! SUPPORT. What each one-field update of the state leaves in each field. -/

namespace Sys2Proof.Machine

@[simp] theorem State.setTransport_transport (t : TransportId) (s : State) : (s.setTransport t).transport = t := rfl
@[simp] theorem State.setTransport_phase (t : TransportId) (s : State) : (s.setTransport t).phase = s.phase := rfl
@[simp] theorem State.setTransport_others (t : TransportId) (s : State) : (s.setTransport t).others = s.others := rfl
@[simp] theorem State.setTransport_requests (t : TransportId) (s : State) : (s.setTransport t).requests = s.requests := rfl
@[simp] theorem State.setTransport_answers (t : TransportId) (s : State) : (s.setTransport t).answers = s.answers := rfl
@[simp] theorem State.setTransport_draws (t : TransportId) (s : State) : (s.setTransport t).draws = s.draws := rfl
@[simp] theorem State.setTransport_sent (t : TransportId) (s : State) : (s.setTransport t).sent = s.sent := rfl
@[simp] theorem State.setTransport_results (t : TransportId) (s : State) : (s.setTransport t).results = s.results := rfl

@[simp] theorem State.setPhase_transport (p : Phase) (s : State) : (s.setPhase p).transport = s.transport := rfl
@[simp] theorem State.setPhase_phase (p : Phase) (s : State) : (s.setPhase p).phase = p := rfl
@[simp] theorem State.setPhase_others (p : Phase) (s : State) : (s.setPhase p).others = s.others := rfl
@[simp] theorem State.setPhase_requests (p : Phase) (s : State) : (s.setPhase p).requests = s.requests := rfl
@[simp] theorem State.setPhase_answers (p : Phase) (s : State) : (s.setPhase p).answers = s.answers := rfl
@[simp] theorem State.setPhase_draws (p : Phase) (s : State) : (s.setPhase p).draws = s.draws := rfl
@[simp] theorem State.setPhase_sent (p : Phase) (s : State) : (s.setPhase p).sent = s.sent := rfl
@[simp] theorem State.setPhase_results (p : Phase) (s : State) : (s.setPhase p).results = s.results := rfl

@[simp] theorem State.setOthers_transport (o : List (TransportId × Phase)) (s : State) : (s.setOthers o).transport = s.transport := rfl
@[simp] theorem State.setOthers_phase (o : List (TransportId × Phase)) (s : State) : (s.setOthers o).phase = s.phase := rfl
@[simp] theorem State.setOthers_others (o : List (TransportId × Phase)) (s : State) : (s.setOthers o).others = o := rfl
@[simp] theorem State.setOthers_requests (o : List (TransportId × Phase)) (s : State) : (s.setOthers o).requests = s.requests := rfl
@[simp] theorem State.setOthers_answers (o : List (TransportId × Phase)) (s : State) : (s.setOthers o).answers = s.answers := rfl
@[simp] theorem State.setOthers_draws (o : List (TransportId × Phase)) (s : State) : (s.setOthers o).draws = s.draws := rfl
@[simp] theorem State.setOthers_sent (o : List (TransportId × Phase)) (s : State) : (s.setOthers o).sent = s.sent := rfl
@[simp] theorem State.setOthers_results (o : List (TransportId × Phase)) (s : State) : (s.setOthers o).results = s.results := rfl

@[simp] theorem State.setRequests_transport (r : List Request) (s : State) : (s.setRequests r).transport = s.transport := rfl
@[simp] theorem State.setRequests_phase (r : List Request) (s : State) : (s.setRequests r).phase = s.phase := rfl
@[simp] theorem State.setRequests_others (r : List Request) (s : State) : (s.setRequests r).others = s.others := rfl
@[simp] theorem State.setRequests_requests (r : List Request) (s : State) : (s.setRequests r).requests = r := rfl
@[simp] theorem State.setRequests_answers (r : List Request) (s : State) : (s.setRequests r).answers = s.answers := rfl
@[simp] theorem State.setRequests_draws (r : List Request) (s : State) : (s.setRequests r).draws = s.draws := rfl
@[simp] theorem State.setRequests_sent (r : List Request) (s : State) : (s.setRequests r).sent = s.sent := rfl
@[simp] theorem State.setRequests_results (r : List Request) (s : State) : (s.setRequests r).results = s.results := rfl

@[simp] theorem State.setAnswers_transport (a : List Answer) (s : State) : (s.setAnswers a).transport = s.transport := rfl
@[simp] theorem State.setAnswers_phase (a : List Answer) (s : State) : (s.setAnswers a).phase = s.phase := rfl
@[simp] theorem State.setAnswers_others (a : List Answer) (s : State) : (s.setAnswers a).others = s.others := rfl
@[simp] theorem State.setAnswers_requests (a : List Answer) (s : State) : (s.setAnswers a).requests = s.requests := rfl
@[simp] theorem State.setAnswers_answers (a : List Answer) (s : State) : (s.setAnswers a).answers = a := rfl
@[simp] theorem State.setAnswers_draws (a : List Answer) (s : State) : (s.setAnswers a).draws = s.draws := rfl
@[simp] theorem State.setAnswers_sent (a : List Answer) (s : State) : (s.setAnswers a).sent = s.sent := rfl
@[simp] theorem State.setAnswers_results (a : List Answer) (s : State) : (s.setAnswers a).results = s.results := rfl

@[simp] theorem State.setDraws_transport (n : Nat) (s : State) : (s.setDraws n).transport = s.transport := rfl
@[simp] theorem State.setDraws_phase (n : Nat) (s : State) : (s.setDraws n).phase = s.phase := rfl
@[simp] theorem State.setDraws_others (n : Nat) (s : State) : (s.setDraws n).others = s.others := rfl
@[simp] theorem State.setDraws_requests (n : Nat) (s : State) : (s.setDraws n).requests = s.requests := rfl
@[simp] theorem State.setDraws_answers (n : Nat) (s : State) : (s.setDraws n).answers = s.answers := rfl
@[simp] theorem State.setDraws_draws (n : Nat) (s : State) : (s.setDraws n).draws = n := rfl
@[simp] theorem State.setDraws_sent (n : Nat) (s : State) : (s.setDraws n).sent = s.sent := rfl
@[simp] theorem State.setDraws_results (n : Nat) (s : State) : (s.setDraws n).results = s.results := rfl

@[simp] theorem State.setSent_transport (l : List (TransportId × Bytes)) (s : State) : (s.setSent l).transport = s.transport := rfl
@[simp] theorem State.setSent_phase (l : List (TransportId × Bytes)) (s : State) : (s.setSent l).phase = s.phase := rfl
@[simp] theorem State.setSent_others (l : List (TransportId × Bytes)) (s : State) : (s.setSent l).others = s.others := rfl
@[simp] theorem State.setSent_requests (l : List (TransportId × Bytes)) (s : State) : (s.setSent l).requests = s.requests := rfl
@[simp] theorem State.setSent_answers (l : List (TransportId × Bytes)) (s : State) : (s.setSent l).answers = s.answers := rfl
@[simp] theorem State.setSent_draws (l : List (TransportId × Bytes)) (s : State) : (s.setSent l).draws = s.draws := rfl
@[simp] theorem State.setSent_sent (l : List (TransportId × Bytes)) (s : State) : (s.setSent l).sent = l := rfl
@[simp] theorem State.setSent_results (l : List (TransportId × Bytes)) (s : State) : (s.setSent l).results = s.results := rfl

@[simp] theorem State.setResults_transport (l : List (Op × Result)) (s : State) : (s.setResults l).transport = s.transport := rfl
@[simp] theorem State.setResults_phase (l : List (Op × Result)) (s : State) : (s.setResults l).phase = s.phase := rfl
@[simp] theorem State.setResults_others (l : List (Op × Result)) (s : State) : (s.setResults l).others = s.others := rfl
@[simp] theorem State.setResults_requests (l : List (Op × Result)) (s : State) : (s.setResults l).requests = s.requests := rfl
@[simp] theorem State.setResults_answers (l : List (Op × Result)) (s : State) : (s.setResults l).answers = s.answers := rfl
@[simp] theorem State.setResults_draws (l : List (Op × Result)) (s : State) : (s.setResults l).draws = s.draws := rfl
@[simp] theorem State.setResults_sent (l : List (Op × Result)) (s : State) : (s.setResults l).sent = s.sent := rfl
@[simp] theorem State.setResults_results (l : List (Op × Result)) (s : State) : (s.setResults l).results = l := rfl

end Sys2Proof.Machine
end

