-- ==== Sys2Proof/Laws/Ops.lean ====
section
/-! SUPPORT. What each shared operation does, once: results and failures, the oracle, the five steps of a call. -/

namespace Sys2Proof.Machine

open Sys2Proof

/-! ### Results -/

theorem State.deliver_eq (op : Op) (r : Result) (s : State) :
    s.deliver op r = { s with results := s.results ++ [(op, r)] } := rfl

theorem State.raise_eq (op : Op) (f : Failure) (s : State) :
    s.raise op f = { s with results := s.results ++ [(op, .failed f)] } := rfl

theorem State.endCall_eq (op : Op) (r : Result) (s : State) :
    s.endCall op r = { s with phase := .idle, results := s.results ++ [(op, r)] } := rfl

theorem State.abortCall_eq (op : Op) (f : Failure) (s : State) :
    s.abortCall op f = { s with phase := .idle, results := s.results ++ [(op, .failed f)] } := rfl

/-- What a codec operation hands over: its value, or its failure's name. -/
def handed {α : Type} (wrap : α → Result) : Except Failure α → Result
  | .ok x => wrap x
  | .error f => .failed f

theorem State.conclude_eq {α : Type} (op : Op) (wrap : α → Result) (v : Except Failure α) (s : State) :
    s.conclude op wrap v = s.deliver op (handed wrap v) := by
  cases v <;> rfl

/-! ### The transport -/

theorem State.nextAnswer_scripted {s : State} {a : Answer} {rest : List Answer} (h : s.answers = a :: rest) :
    s.nextAnswer = a := by
  simp [State.nextAnswer, h]

theorem State.drawn_eq (s : State) :
    s.drawn = { s with answers := s.answers.tail, draws := s.draws + 1 } := rfl

theorem State.handOver_eq (out : Bytes) (s : State) :
    s.handOver out = { s with sent := s.sent ++ [(s.transport, out)] } := rfl

theorem State.nextAnswer_setPhase (p : Phase) (s : State) : (s.setPhase p).nextAnswer = s.nextAnswer := rfl

/-! ### Steps that are not at their phase -/

theorem State.buildStep_of_ne {s : State} (h : ∀ c, s.phase ≠ .build c) : s.buildStep = s := by
  unfold State.buildStep
  split
  · exact absurd ‹_› (h _)
  · rfl

theorem State.transferStep_of_ne {s : State} (h : ∀ c o, s.phase ≠ .transfer c o) : s.transferStep = s := by
  unfold State.transferStep
  split
  · exact absurd ‹_› (h _ _)
  · rfl

theorem State.decodeStep_of_ne {s : State} (h : ∀ c b, s.phase ≠ .decode c b) : s.decodeStep = s := by
  unfold State.decodeStep
  split
  · exact absurd ‹_› (h _ _)
  · rfl

theorem State.validateStep_of_ne {s : State} (h : ∀ c r, s.phase ≠ .validate c r) : s.validateStep = s := by
  unfold State.validateStep
  split
  · exact absurd ‹_› (h _ _)
  · rfl

theorem State.returnStep_of_ne {s : State} (h : ∀ c r, s.phase ≠ .ret c r) : s.returnStep = s := by
  unfold State.returnStep
  split
  · exact absurd ‹_› (h _ _)
  · rfl

/-! ### Steps at their phase -/

theorem State.buildStep_of {s : State} {c : Call} (h : s.phase = .build c) :
    s.buildStep = s.beginTransfer (some c) c.command := by
  simp only [State.buildStep, h]

theorem State.transferStep_of {s : State} {c : Option Call} {o : Bytes} (h : s.phase = .transfer c o) :
    s.transferStep = s.drawn.takeAnswer c s.nextAnswer := by
  simp only [State.transferStep, h]

theorem State.decodeStep_ok {s : State} {c : Call} {b : Bytes} {rsp : Response} (h : s.phase = .decode c b)
    (hd : decodeResponse b = .ok rsp) : s.decodeStep = s.setPhase (.validate c rsp) := by
  simp only [State.decodeStep, h, hd]

theorem State.decodeStep_error {s : State} {c : Call} {b : Bytes} {f : Failure} (h : s.phase = .decode c b)
    (hd : decodeResponse b = .error f) : s.decodeStep = s.abortCall c.op f := by
  simp only [State.decodeStep, h, hd]

theorem State.validateStep_ok {s : State} {c : Call} {rsp : Response} (h : s.phase = .validate c rsp)
    (hv : validate rsp = .ok ()) : s.validateStep = s.setPhase (.ret c rsp) := by
  simp only [State.validateStep, h, hv]

theorem State.validateStep_error {s : State} {c : Call} {rsp : Response} {f : Failure}
    (h : s.phase = .validate c rsp) (hv : validate rsp = .error f) : s.validateStep = s.abortCall c.op f := by
  simp only [State.validateStep, h, hv]

theorem State.returnStep_of {s : State} {c : Call} {rsp : Response} (h : s.phase = .ret c rsp) :
    s.returnStep = s.endCall c.op (c.success rsp) := by
  simp only [State.returnStep, h]

/-! ### Stepping -/

theorem step_of_busy {s : State} (h : s.phase ≠ .idle) : step s = .next s.continueCall := by
  unfold step
  split
  · exact absurd ‹_› h
  · rfl

end Sys2Proof.Machine
end

