-- ==== Sys2Proof/Laws/PerInstr.lean ====
section
/-! SUPPORT. One fact about every operation as syntax: the request that calls it names it and carries a buffer of
its row's length (spec/opcode_table.json; 30_encoding.md R44, R59). -/

namespace Sys2Proof.Laws.Carries

open Sys2Proof Sys2Proof.Machine

/-- The request of a well-formed operation names that operation, and its buffer is 14 bytes for the rows whose
encoding is a frame, empty for `NEW`, and the operand itself for the decoders. -/
def Statement (i : Instr) : Prop :=
  i.wellFormed = true → (encode i).op = i.op ∧
    match i with
    | .encw _ _ _ => (encode i).buffer.length = 14
    | .encr _ _ => (encode i).buffer.length = 14
    | .encrsp _ _ _ _ _ => (encode i).buffer.length = 14
    | .decrsp b => (encode i).buffer = b
    | .decw b => (encode i).buffer = b
    | .decr b => (encode i).buffer = b
    | .cmdkind b => (encode i).buffer = b
    | .newBridge t => (encode i).buffer = [] ∧ (encode i).transport = t
    | .xfer _ => (encode i).buffer.length = 14
    | .read _ => (encode i).buffer.length = 14
    | .write _ _ => (encode i).buffer.length = 14

theorem encw (be : Mask) (address data : Word) : Statement (.encw be address data) := fun _ => ⟨rfl, rfl⟩

theorem encr (be : Mask) (address : Word) : Statement (.encr be address) := fun _ => ⟨rfl, rfl⟩

theorem encrsp (dummy : Filler) (readData : Word) (ack error : Bit) (be : Mask) :
    Statement (.encrsp dummy readData ack error be) := fun _ => ⟨rfl, rfl⟩

theorem decrsp (b : Bytes) : Statement (.decrsp b) := fun _ => ⟨rfl, rfl⟩

theorem decw (b : Bytes) : Statement (.decw b) := fun _ => ⟨rfl, rfl⟩

theorem decr (b : Bytes) : Statement (.decr b) := fun _ => ⟨rfl, rfl⟩

theorem cmdkind (b : Bytes) : Statement (.cmdkind b) := fun _ => ⟨rfl, rfl⟩

theorem newBridge (transport : TransportId) : Statement (.newBridge transport) := fun _ => ⟨rfl, rfl, rfl⟩

theorem xfer (out : Bytes) : Statement (.xfer out) := fun h => ⟨rfl, eq_of_beq h⟩

theorem read (address : Word) : Statement (.read address) := fun _ => ⟨rfl, rfl⟩

theorem write (address : Word) (data : Bytes4) : Statement (.write address data) := fun _ => ⟨rfl, rfl⟩

end Sys2Proof.Laws.Carries
end

