-- ==== Sys2Proof/Laws/Safety.lean ====
section
/-! SUPPORT. The small lemmas of Safety.lean's definitions. -/

namespace Sys2Proof

theorem Op.isCodec_eq_false_iff (op : Op) :
    op.isCodec = false ↔ op = .newBridge ∨ op = .xfer ∨ op = .read ∨ op = .write := by
  cases op <;> decide

theorem Op.transfers_iff (op : Op) : op.transfers = true ↔ op = .xfer ∨ op = .read ∨ op = .write := by
  cases op <;> decide

end Sys2Proof

namespace Sys2Proof.Machine

@[simp] theorem Phase.inFlight_idle : Phase.idle.inFlight = 0 := rfl

@[simp] theorem Phase.inFlight_build (c : Call) : (Phase.build c).inFlight = 0 := rfl

@[simp] theorem Phase.inFlight_transfer (c : Option Call) (out : Bytes) : (Phase.transfer c out).inFlight = 1 := rfl

@[simp] theorem Phase.inFlight_decode (c : Call) (b : Bytes) : (Phase.decode c b).inFlight = 1 := rfl

@[simp] theorem Phase.inFlight_validate (c : Call) (r : Response) : (Phase.validate c r).inFlight = 1 := rfl

@[simp] theorem Phase.inFlight_ret (c : Call) (r : Response) : (Phase.ret c r).inFlight = 1 := rfl

theorem Call.instr_op (c : Call) : c.instr.op = c.op := by cases c <;> rfl

theorem Call.instr_buffer (c : Call) : c.instr.buffer = c.command := by cases c <;> rfl

theorem Call.op_transfers (c : Call) : c.op.transfers = true := by cases c <;> rfl

theorem Call.command_length (c : Call) : c.command.length = 14 := by cases c <;> rfl

end Sys2Proof.Machine
end

