-- ==== Sys2Proof/Tests/Slice0.lean ====
section
/-! SUPPORT. The model's own tests: one step each, expected values from spec/95_test_vectors.md (the vector is named
in each comment) and from the frame tables of 30_encoding.md; then one witness for the hypotheses of each statement
that has some. -/

namespace Sys2Proof.Tests

open Sys2Proof Sys2Proof.Machine Host

/-! ### Helpers -/

/-- The machine at its start with these answers scripted. -/
def scripted (answers : List Answer) : State := { State.reset with answers := answers }

/-- The machine at its start with one request presented and these answers scripted. -/
def asked (r : Request) (answers : List Answer) : State := (scripted answers).present r

/-- The start with one phase set. -/
def at' (p : Phase) (answers : List Answer) : State := (scripted answers).setPhase p

/-- The results handed over after a next state. -/
def resultsOf : Outcome State Fault Refusal → Option (List Result)
  | .next s => some (s.results.map Prod.snd)
  | .fault _ => none
  | .refused _ => none

/-- The frames handed to the transport in a next state. -/
def sentOf : Outcome State Fault Refusal → Option (List Bytes)
  | .next s => some (s.sent.map Prod.snd)
  | .fault _ => none
  | .refused _ => none

/-- The phase of a next state. -/
def phaseOf : Outcome State Fault Refusal → Option Phase
  | .next s => some s.phase
  | .fault _ => none
  | .refused _ => none

/-- The refusal, if there is one. -/
def refusalOf : Outcome State Fault Refusal → Option Refusal
  | .next _ => none
  | .fault _ => none
  | .refused r => some r

/-! ### Well-formedness: an ill-formed term for its one check -/

theorem test_xfer_of_13_bytes_is_ill_formed : (Instr.xfer (List.replicate 13 0)).wellFormed = false := by decide

theorem test_xfer_of_14_bytes_is_well_formed : (Instr.xfer (List.replicate 14 0)).wellFormed = true := by decide

/-! ### Decoding: words written out bit by bit from R45 to R48 -/

/-- Vector E5: `1000 1000`, then the bytes of 0x00000001 and 0x80000000. -/
theorem test_decode_encw : decode ⟨.encw, [0b10001000, 0x01, 0, 0, 0, 0, 0, 0, 0x80, 0, 0, 0, 0, 0], 0⟩ =
    .ok (.encw 0b1000 0x00000001 0x80000000) := by rfl

/-- Vector E17: `0000 0101`, then the bytes of 0x00000100. -/
theorem test_decode_encr : decode ⟨.encr, [0b00000101, 0, 0x01, 0, 0, 0, 0, 0, 0, 0, 0, 0, 0, 0], 0⟩ =
    .ok (.encr 0b0101 0x00000100) := by rfl

/-- Vector E20: byte 13 is `1 1 00 1001`. -/
theorem test_decode_encrsp :
    decode ⟨.encrsp, [0x11, 0x22, 0x33, 0x44, 0x55, 0x66, 0x77, 0x88, 0x99, 0x0D, 0xF0, 0xFE, 0xCA, 0b11001001], 0⟩ =
      .ok (.encrsp 0x112233445566778899 0xCAFEF00D 1 1 0b1001) := by rfl

/-- Vector B7 (the frame a `READ` sends). -/
theorem test_decode_read : decode ⟨.read, [0b00001111, 0x84, 0x71, 0x03, 0, 0, 0, 0, 0, 0, 0, 0, 0, 0], 0⟩ =
    .ok (.read 0x00037184) := by rfl

/-- Vector B10 (the frame a `WRITE` sends). -/
theorem test_decode_write : decode ⟨.write, [0b10001111, 0x04, 0, 0, 0, 1, 2, 3, 4, 0, 0, 0, 0, 0], 0⟩ =
    .ok (.write 0x00000004 ⟨1, 2, 3, 4⟩) := by rfl

/-- A decoder's operand is the buffer itself, of any length (R16, R65). -/
theorem test_decode_decoders :
    decode ⟨.decrsp, [1, 2], 0⟩ = .ok (.decrsp [1, 2]) ∧ decode ⟨.decw, [1, 2], 0⟩ = .ok (.decw [1, 2]) ∧
      decode ⟨.decr, [1, 2], 0⟩ = .ok (.decr [1, 2]) ∧ decode ⟨.cmdkind, [1, 2], 0⟩ = .ok (.cmdkind [1, 2]) := by
  exact ⟨rfl, rfl, rfl, rfl⟩

/-- `NEW` has its transport operand and no frame; `XFER` has a frame (R71, R72). -/
theorem test_decode_new_and_xfer :
    decode ⟨.newBridge, [], 7⟩ = .ok (.newBridge 7) ∧
      decode ⟨.xfer, List.replicate 14 0xAA, 0⟩ = .ok (.xfer (List.replicate 14 0xAA)) := by
  exact ⟨rfl, rfl⟩

/-- Refused by name: a reserved bit set, a marker missing, a frame too short (R53, R44). -/
theorem test_decode_refuses_by_name :
    decode ⟨.encw, [0xC0, 0, 0, 0, 0, 0, 0, 0, 0, 0, 0, 0, 0, 0], 0⟩ = .error (.patternMismatch .encw) ∧
      decode ⟨.write, [0x0F, 0, 0, 0, 0, 0, 0, 0, 0, 0, 0, 0, 0, 0], 0⟩ = .error (.patternMismatch .write) ∧
      decode ⟨.xfer, List.replicate 13 0, 0⟩ = .error (.notAFrame .xfer) := by
  exact ⟨rfl, rfl, rfl⟩

/-- A bare table word: the row with the most mask bits that it fits (Log 7). -/
theorem test_table_words :
    decodeTableWord 112 0x8F = some (.write 0 ⟨0, 0, 0, 0⟩) ∧ decodeTableWord 112 0x80 = some (.encw 0 0 0) ∧
      decodeTableWord 112 0x0F = some (.read 0) ∧ decodeTableWord 112 0x00 = some (.encr 0 0) ∧
      decodeTableWord 0 0 = some (.newBridge 0) := by decide

/-- The table word that is presented is the very next step. -/
theorem test_withFetchWord_runs_next :
    resultsOf (step (State.reset.withFetchWord 112 0x80)) = some [.frame [0x80, 0, 0, 0, 0, 0, 0, 0, 0, 0, 0, 0, 0, 0]] := by
  decide

/-! ### One step each -/

/-- Vector E9. -/
theorem test_encw_bytes_reversed : resultsOf (exec (.encw 0b0011 0xA5A5A5A5 0x01020304) State.reset) =
    some [.frame [0x83, 0xA5, 0xA5, 0xA5, 0xA5, 0x04, 0x03, 0x02, 0x01, 0, 0, 0, 0, 0]] := by decide

/-- Vector E4. -/
theorem test_encw_all_ones : resultsOf (exec (.encw 0b1111 0xFFFFFFFF 0xFFFFFFFF) State.reset) =
    some [.frame [0x8F, 0xFF, 0xFF, 0xFF, 0xFF, 0xFF, 0xFF, 0xFF, 0xFF, 0, 0, 0, 0, 0]] := by decide

/-- Vector E18. -/
theorem test_encr_third_byte : resultsOf (exec (.encr 0b1010 0x00010000) State.reset) =
    some [.frame [0x0A, 0, 0, 1, 0, 0, 0, 0, 0, 0, 0, 0, 0, 0]] := by decide

/-- Vector E20. -/
theorem test_encrsp_filler_and_flags :
    resultsOf (exec (.encrsp 0x112233445566778899 0xCAFEF00D 1 1 0b1001) State.reset) =
      some [.frame [0x11, 0x22, 0x33, 0x44, 0x55, 0x66, 0x77, 0x88, 0x99, 0x0D, 0xF0, 0xFE, 0xCA, 0xC9]] := by decide

/-- Vector E28: filler bit 71 is frame bit 0. -/
theorem test_encrsp_filler_top_bit : resultsOf (exec (.encrsp 0x800000000000000000 0 0 0 0) State.reset) =
    some [.frame [0x80, 0, 0, 0, 0, 0, 0, 0, 0, 0, 0, 0, 0, 0]] := by decide

/-- Vector D8. -/
theorem test_decrsp_ignores_reserved_bits :
    resultsOf (exec (.decrsp [0, 0, 0, 0, 0, 0, 0, 0, 0, 0x78, 0x56, 0x34, 0x12, 0x35]) State.reset) =
      some [.response ⟨0x12345678, 0, 0, 0b0101⟩] := by decide

/-- Vectors D20, D21. -/
theorem test_decrsp_lengths : resultsOf (exec (.decrsp (List.replicate 13 0)) State.reset) = some [.failed .frameError] ∧
    resultsOf (exec (.decrsp (List.replicate 15 0)) State.reset) = some [.failed .frameError] := by decide

/-- Vector D14. -/
theorem test_decw_ignores_reserved_bits :
    resultsOf (exec (.decw [0xF5, 1, 0, 0, 0, 2, 0, 0, 0, 9, 9, 9, 9, 9]) State.reset) =
      some [.writeCommand ⟨1, 0b0101, 1, 2⟩] := by decide

/-- Vector D13. -/
theorem test_decr_of_a_write_command :
    resultsOf (exec (.decr [0x8F, 0x78, 0x56, 0x34, 0x12, 0xEF, 0xBE, 0xAD, 0xDE, 0, 0, 0, 0, 0]) State.reset) =
      some [.readCommand ⟨0b1111, 0x12345678⟩] := by decide

/-- Vector D19. -/
theorem test_cmdkind_tests_the_marker_alone :
    resultsOf (exec (.cmdkind [0x7F, 0, 0, 0, 0, 0, 0, 0, 0, 0, 0, 0, 0, 0]) State.reset) = some [.kind .read] := by
  decide

/-- `NEW` keeps the Bridge it replaces, a call in progress included (R18, Log 4). -/
theorem test_new_keeps_the_older_bridge :
    (match exec (.newBridge 9) (at' (.build (.read 0)) []) with
      | .next t => t.transport = 9 ∧ t.phase = .idle ∧ t.others = [(0, .build (.read 0))] ∧ t.sent = []
      | _ => False) := by
  exact ⟨rfl, rfl, rfl, rfl⟩

/-- `XFER` gives the buffer back as it came, whatever its length (R72). -/
theorem test_xfer_returns_the_buffer :
    resultsOf (exec (.xfer (List.replicate 14 0x5A)) (scripted [.bytes [1, 2, 3]])) = some [.received [1, 2, 3]] ∧
      sentOf (exec (.xfer (List.replicate 14 0x5A)) (scripted [.bytes [1, 2, 3]])) =
        some [List.replicate 14 0x5A] := by decide

/-- Vector B1, through a whole step from the request. -/
theorem test_read_success :
    resultsOf (step (asked ⟨.read, [0x0F, 0x84, 0x71, 0x03, 0, 0, 0, 0, 0, 0, 0, 0, 0, 0], 0⟩
      [.bytes [0xA5, 0xA5, 0xA5, 0xA5, 0xA5, 0xA5, 0xA5, 0xA5, 0xA5, 0x68, 0x68, 0x75, 0x62, 0x8F]])) =
      some [.bytes4 ⟨0x68, 0x68, 0x75, 0x62⟩] := by decide

/-- Vector B3: `ack = 0` with `error = 1` is `MissingAck`. -/
theorem test_read_missing_ack_first :
    resultsOf (exec (.read 0xDEAD0000)
      (scripted [.bytes [0, 0, 0, 0, 0, 0, 0, 0, 0, 0x44, 0x33, 0x22, 0x11, 0x4F]])) =
      some [.failed .missingAck] := by decide

/-- Vector B10: the length is checked before any bit; the frame sent carries the four bytes in order. -/
theorem test_write_wrong_length :
    resultsOf (exec (.write 4 ⟨1, 2, 3, 4⟩) (scripted [.bytes (List.replicate 15 0xFF)])) =
        some [.failed .frameError] ∧
      sentOf (exec (.write 4 ⟨1, 2, 3, 4⟩) (scripted [.bytes (List.replicate 15 0xFF)])) =
        some [[0x8F, 0x04, 0, 0, 0, 1, 2, 3, 4, 0, 0, 0, 0, 0]] := by decide

/-- Vector B14: a write's `read_data` is not checked. -/
theorem test_write_success :
    resultsOf (exec (.write 0x10 ⟨0xEF, 0xBE, 0xAD, 0xDE⟩)
      (scripted [.bytes [0, 0, 0, 0, 0, 0, 0, 0, 0, 0x12, 0x34, 0x56, 0x78, 0x8F]])) = some [.written] := by decide

/-- R98: no answer, and the call waits in `Transfer`. -/
theorem test_blocked_transfer_waits :
    phaseOf (step (at' (.transfer (some (.read 0)) (encodeRead 0b1111 0)) [.pending])) =
      some (.transfer (some (.read 0)) (encodeRead 0b1111 0)) := by decide

/-- R102: a second call is refused. -/
theorem test_second_call_refused :
    refusalOf (exec (.read 0) (at' (.build (.read 0)) [])) = some .callInProgress := by decide

/-- R95: a codec operation runs in any phase, and the phase stays. -/
theorem test_codec_runs_during_a_call :
    phaseOf (exec (.cmdkind []) (at' (.build (.read 0)) [])) = some (.build (.read 0)) := by decide

/-! ### Witnesses: for each statement with hypotheses, operands and a state that meet them, clause by clause -/

/-- A good response: `ack` 1, `error` 0. -/
def good : Bytes := [1, 2, 3, 4, 5, 6, 7, 8, 9, 0x68, 0x68, 0x75, 0x62, 0x8F]

/-- The same fields, other filler and reserved bits. -/
def good' : Bytes := [0, 0, 0, 0, 0, 0, 0, 0, 0, 0x68, 0x68, 0x75, 0x62, 0xBF]

/-- `ack` 0, `error` 1. -/
def noAck : Bytes := [0, 0, 0, 0, 0, 0, 0, 0, 0, 0x68, 0x68, 0x75, 0x62, 0x4F]

/-- `ack` 1, `error` 1. -/
def payloadBad : Bytes := [0, 0, 0, 0, 0, 0, 0, 0, 0, 0x68, 0x68, 0x75, 0x62, 0xCF]

theorem witness_EncodersTotalPureCanonical : (at' (.build (.read 5)) []).phase = .build (.read 5) := by decide

theorem witness_EncodersInjectiveAndDisjoint :
    encodeWrite 1 2 3 = encodeWrite 1 2 3 ∧ encodeRead 1 2 = encodeRead 1 2 ∧
      encodeResponse 1 2 1 0 3 = encodeResponse 1 2 1 0 3 := by decide

/-- For the statements about what the decoders return: each returns fields of a buffer of 14 bytes. -/
theorem witness_DecodersReturn :
    decodeWrite good = .ok ⟨0, 1, 0x05040302, 0x09080706⟩ ∧ decodeRead good = .ok ⟨1, 0x05040302⟩ ∧
      decodeResponse good = .ok ⟨0x62756868, 1, 0, 0b1111⟩ := by
  exact ⟨rfl, rfl, rfl⟩

/-- R50, R49, R51 at the ends of their ranges, from R50's own list of frame bits. -/
theorem witness_PlacementBoundaries :
    fbit (encodeWrite 0 0x00000001 0) 15 = 1 ∧ fbit (encodeWrite 0 0x80000000 0) 32 = 1 ∧
      fbit (encodeWrite 0 0 0x00000001) 47 = 1 ∧ fbit (encodeWrite 0 0 0x80000000) 64 = 1 ∧
      fbit (encodeResponse 0 1 0 0 0) 79 = 1 ∧ fbit (encodeResponse 0 0x80000000 0 0 0) 96 = 1 ∧
      fbit (encodeRead 0b1000 0) 4 = 1 ∧ fbit (encodeRead 0b0001 0) 7 = 1 ∧
      fbit (encodeResponse 0x800000000000000000 0 0 0 0) 0 = 1 ∧ fbit (encodeResponse 1 0 0 0 0) 71 = 1 := by decide

theorem witness_DecodersCheckTheLengthAlone :
    (List.replicate 13 (0 : Byte)).length ≠ 14 ∧ (List.replicate 15 (0 : Byte)).length ≠ 14 ∧
      ([] : Bytes).length ≠ 14 ∧ good.length = 14 := by decide

theorem witness_DecrspReadsTheResponse : (List.replicate 15 (0 : Byte)).length ≠ 14 := by decide

/-- Reserved ranges at their ends, and two buffers that agree on the read bits of a format and differ elsewhere. -/
theorem witness_ReservedBitsZeroOnEncodeIgnoredOnDecode :
    (fbit (encodeWrite 0b1111 0xFFFFFFFF 0xFFFFFFFF) 1 = 0 ∧ fbit (encodeWrite 0b1111 0xFFFFFFFF 0xFFFFFFFF) 3 = 0 ∧
      fbit (encodeWrite 0b1111 0xFFFFFFFF 0xFFFFFFFF) 72 = 0 ∧ fbit (encodeRead 0b1111 0xFFFFFFFF) 40 = 0) ∧
    good.length = 14 ∧ good'.length = 14 ∧ good ≠ good' ∧
    (∀ k, (72 ≤ k ∧ k ≤ 105) ∨ (108 ≤ k ∧ k ≤ 111) → fbit good k = fbit good' k) ∧
    (∀ k, k = 0 ∨ (4 ≤ k ∧ k ≤ 71) → fbit noAck k = fbit payloadBad k) ∧
    (∀ k, 4 ≤ k ∧ k ≤ 39 → fbit noAck k = fbit good' k) ∧ fbit good 0 = fbit good' 0 := by
  refine ⟨by decide, by decide, by decide, by decide, ?_, ?_, ?_, by decide⟩ <;>
  · intro k h
    have hk : k < 112 := by omega
    revert h; revert hk; revert k
    decide

theorem witness_EveryMaskIsLegal :
    resultsOf (exec (Call.read 3).instr (scripted [.fail])) = some [.failed .badWrite] ∧
      resultsOf (exec (Call.write 3 ⟨1, 2, 3, 4⟩).instr (scripted [.bytes good])) = some [.written] := by decide

theorem witness_ReencodingRecoversCanonicalBuffersOnly :
    (encodeWrite 0b0110 0x89ABCDEF 0x01234567).length = 14 ∧
      byteAt (encodeWrite 0b0110 0x89ABCDEF 0x01234567) 0 &&& 0xF0 = 0x80 ∧ good.length = 14 ∧
      byteAt good 0 &&& 0xF0 ≠ 0x80 ∧ byteAt good 13 &&& 0x30 = 0 ∧ byteAt good' 13 &&& 0x30 ≠ 0 := by decide

theorem witness_CodecOperationsArePure :
    (Instr.encw 0 0 0).op.isCodec = true ∧ (Instr.encr 0 0).op.isCodec = true ∧
      (Instr.encrsp 0 0 0 0 0).op.isCodec = true ∧ (Instr.decrsp []).op.isCodec = true ∧
      (Instr.decw []).op.isCodec = true ∧ (Instr.decr []).op.isCodec = true ∧
      (Instr.cmdkind []).op.isCodec = true ∧ (scripted [.bytes good]).phase = .idle ∧
      (scripted [.bytes good]).answerTo (encodeRead 0b1111 7) = .bytes good ∧
      ({ scripted [.bytes good, .fail] with transport := 9 } : State).phase = .idle ∧
      ({ scripted [.bytes good, .fail] with transport := 9 } : State).answerTo (encodeRead 0b1111 7) = .bytes good := by
  decide

theorem witness_DecodeOfEncodeIsTheOperation : (Instr.xfer good).wellFormed = true := by decide

theorem witness_DecodeDropsNoBit :
    decode ⟨.read, encodeRead 0b1111 5, 0⟩ = .ok (.read 5) ∧ decode ⟨.newBridge, good, 3⟩ = .ok (.newBridge 3) := by
  exact ⟨rfl, rfl⟩

theorem witness_StepRunsTheDecodedOperation :
    (asked ⟨.decrsp, good, 0⟩ []).phase = .idle ∧ (asked ⟨.decrsp, good, 0⟩ []).requests = [⟨.decrsp, good, 0⟩] ∧
      decode ⟨.decrsp, good, 0⟩ = .ok (.decrsp good) ∧
      (asked ⟨.xfer, [], 0⟩ []).requests = [⟨.xfer, [], 0⟩] ∧ decode ⟨.xfer, [], 0⟩ = .error (.notAFrame .xfer) ∧
      State.reset.phase = .idle ∧ State.reset.requests = [] ∧ (at' (.build (.read 0)) []).phase ≠ .idle := by
  exact ⟨rfl, rfl, rfl, rfl, rfl, rfl, rfl, by decide⟩

/-- For `ReadOutcome`, `WriteOutcome`, `XferOutcome`, `AtomicCallIsTheFiveSteps`, `TransportFailuresExactly`,
`FailureLeavesNothingBehind`: an idle state, with an answer that is none, that fails, that is short and that is
good. -/
theorem witness_IdleWithEveryAnswer :
    (scripted [.pending]).phase = .idle ∧
      (scripted [.pending]).answerTo (Call.read 0).command = .pending ∧
      (scripted [.fail]).answerTo (Call.read 0).command = .fail ∧
      (scripted [.bytes []]).answerTo (Call.write 0 ⟨1, 2, 3, 4⟩).command = .bytes [] ∧
      (scripted [.bytes good]).answerTo (Call.read 0).command = .bytes good := by decide

theorem witness_TransfersComplete :
    (scripted [.bytes good]).phase = .idle ∧
      (scripted [.bytes good]).answerTo (encodeRead 0b1111 0) = .bytes good ∧
      (scripted [.bytes good]).answerTo (encodeWrite 0b1111 0 (unle32 ⟨1, 2, 3, 4⟩)) = .bytes good ∧
      (scripted [.bytes []]).answerTo (List.replicate 14 0) = .bytes [] ∧
      good.length = 14 ∧ fbit good 104 = 1 ∧ fbit good 105 = 0 := by decide

theorem witness_ValidateTestsAckFirst :
    (at' (.validate (.read 0) ⟨0, 0, 1, 0⟩) []).phase = .validate (.read 0) ⟨0, 0, 1, 0⟩ ∧
      (⟨0, 0, 1, 0⟩ : Response).ack = 0 ∧
      (at' (.validate (.read 0) ⟨0, 1, 1, 0⟩) []).phase = .validate (.read 0) ⟨0, 1, 1, 0⟩ ∧
      (⟨0, 1, 1, 0⟩ : Response).error = 1 ∧
      (at' (.validate (.read 0) ⟨0, 1, 0, 0⟩) []).phase = .validate (.read 0) ⟨0, 1, 0, 0⟩ ∧
      (⟨0, 1, 0, 0⟩ : Response).error = 0 := by decide

/-- For `FirstFailureInStepOrderIsReported`, `MissingAckExactlyWithoutAck` and `PayloadErrorExactlyOnAckWithError`. -/
theorem witness_FirstFailureInStepOrderIsReported :
    (scripted [.bytes noAck]).phase = .idle ∧
      (scripted [.fail]).answerTo (Call.write 0 ⟨0, 0, 0, 0⟩).command = .fail ∧
      (scripted [.bytes (List.replicate 13 0)]).answerTo (Call.read 0).command = .bytes (List.replicate 13 0) ∧
      (scripted [.bytes noAck]).answerTo (Call.read 0).command = .bytes noAck ∧
      noAck.length = 14 ∧ fbit noAck 104 = 0 ∧
      (scripted [.bytes payloadBad]).answerTo (Call.read 0).command = .bytes payloadBad ∧
      payloadBad.length = 14 ∧ fbit payloadBad 104 = 1 ∧ fbit payloadBad 105 = 1 := by decide

/-- The next state of an operation, if there is one, ends in this result. -/
theorem witness_FailureLeavesNothingBehind :
    (Instr.decrsp []).op.isCodec = true ∧
      resultsOf (exec (.decrsp []) State.reset) = some [.failed .frameError] ∧
      resultsOf (exec (.read 0) (scripted [.fail])) = some [.failed .badWrite] := by decide

theorem witness_TransportFailuresExactly :
    resultsOf (exec (.read 0) (scripted [.bytes good])) = some [.bytes4 ⟨0x68, 0x68, 0x75, 0x62⟩] ∧
      conforms ((scripted [.bytes good]).answerTo (Call.read 0).command) = true := by decide

theorem witness_UncheckedResponseBitsDoNotMatter :
    good.length = 14 ∧ good'.length = 14 ∧ good ≠ good' ∧
    (∀ k, 72 ≤ k ∧ k ≤ 105 → fbit good k = fbit good' k) ∧
    fbit good 104 = fbit good' 104 ∧ fbit good 105 = fbit good' 105 := by
  refine ⟨by decide, by decide, by decide, ?_, by decide, by decide⟩
  intro k h
  have hk : k < 112 := by omega
  revert h; revert hk; revert k
  decide

theorem witness_AddressNeverDecidesTheResult :
    (scripted [.bytes good]).phase = .idle ∧ (scripted [.bytes good]).answers = [.bytes good] ∧
      returns (.bytes good) = true := by decide

/-- For `OnlyAnAnswerEndsATransfer`, `NoCallBeginsDuringAnother` and `WaitingChangesNoOutcome`. -/
theorem witness_OnlyAnAnswerEndsATransfer :
    (at' (.transfer (some (.read 0)) (Call.read 0).command) [.pending]).phase =
        .transfer (some (.read 0)) (Call.read 0).command ∧
      (at' (.transfer (some (.read 0)) (Call.read 0).command) [.pending]).phase ≠ .idle ∧
      (at' (.transfer (some (.read 0)) (Call.read 0).command) [.pending]).nextAnswer = .pending ∧
      (at' (.transfer none good) [.fail]).phase = .transfer none good ∧
      (at' (.transfer none good) [.fail]).nextAnswer ≠ .pending := by decide

theorem witness_OnlyNewChangesTheHandle :
    (match step (asked ⟨.newBridge, [], 7⟩ []) with
      | .next t => t.transport = 7 ∧ t.transport ≠ (asked ⟨.newBridge, [], 7⟩ []).transport
      | _ => False) := by
  exact ⟨rfl, by decide⟩

/-- For `ExactlyOneTransferOrNone`: an operation that transfers and one that does not, each with a next state. -/
theorem witness_ExactlyOneTransferOrNone :
    (Instr.xfer good).op.transfers = true ∧
      resultsOf (exec (.xfer good) (scripted [.fail])) = some [.transferFailed] ∧
      (Instr.newBridge 1).op.transfers = false ∧ resultsOf (exec (.newBridge 1) State.reset) = some [.bridge 1] := by decide

/-- For `StepsKeepCallOrder`, clause by clause, each with a next state: a request that transfers, one that does not,
no request, a call in `Build` and one in `Transfer`. -/
theorem witness_StepsKeepCallOrder :
    ((asked ⟨.xfer, good, 0⟩ [.fail]).phase = .idle ∧
      sentOf (step (asked ⟨.xfer, good, 0⟩ [.fail])) = some [good]) ∧
    ((asked ⟨.decrsp, good, 0⟩ []).phase = .idle ∧ sentOf (step (asked ⟨.decrsp, good, 0⟩ [])) = some []) ∧
    (State.reset.phase = .idle ∧ State.reset.requests = [] ∧ sentOf (step State.reset) = some []) ∧
    ((at' (.build (.read 5)) [.pending]).phase ≠ .idle ∧
      sentOf (step (at' (.build (.read 5)) [.pending])) = some [(Call.read 5).command]) ∧
    (at' (.transfer none good) [.pending]).phase ≠ .idle ∧
      sentOf (step (at' (.transfer none good) [.pending])) = some [] := by decide

/-- For the three invariants: a state with a frame in flight that meets them, and its next state. -/
theorem witness_Invariants :
    (match step (asked ⟨.read, encodeRead 0b1111 5, 0⟩ [.pending]) with
      | .next t => t.phase = .transfer (some (.read 5)) (Call.read 5).command ∧ t.commandUnchanged ∧
          t.oneTransferPerCall ∧ t.sent = [(0, (Call.read 5).command)]
      | _ => False) ∧
    (asked ⟨.read, encodeRead 0b1111 5, 0⟩ [.pending]).commandUnchanged ∧
    (asked ⟨.read, encodeRead 0b1111 5, 0⟩ [.pending]).oneTransferPerCall ∧
    ∀ e ∈ (asked ⟨.read, encodeRead 0b1111 5, 0⟩ [.pending]).sent, e.2.length = 14 := by
  refine ⟨⟨rfl, ⟨rfl, fun c h => ?_⟩, rfl, rfl⟩, trivial, rfl, fun e h => nomatch h⟩
  cases h
  rfl

end Sys2Proof.Tests
end

/-! ## Proofs: the family of 10_state.md -/

section
/-! SUPPORT. The operations in four kinds (codec, `NEW`, `XFER`, Bridge call), what `exec` and `step` can do with each,
and what the steps of a call leave unchanged. -/

namespace Sys2Proof

open Sys2Proof.Machine

/-- The four kinds of operation: codec (R15), `NEW` (R71), `XFER` (R72), Bridge call (R75, R76). -/
theorem Instr.kind_cases (i : Instr) :
    i.op.isCodec = true ∨ (∃ h, i = .newBridge h) ∨ (∃ out, i = .xfer out) ∨ ∃ c : Call, i = c.instr := by
  cases i with
  | newBridge h => exact .inr (.inl ⟨h, rfl⟩)
  | xfer out => exact .inr (.inr (.inl ⟨out, rfl⟩))
  | read a => exact .inr (.inr (.inr ⟨.read a, rfl⟩))
  | write a d => exact .inr (.inr (.inr ⟨.write a d, rfl⟩))
  | _ => exact .inl rfl

/-- Only `NEW` has the name `NEW`. -/
theorem Instr.eq_newBridge_of_op {i : Instr} (h : i.op = .newBridge) : ∃ t, i = .newBridge t := by
  cases i with
  | newBridge t => exact ⟨t, rfl⟩
  | _ => nomatch h

end Sys2Proof

namespace Sys2Proof.Machine

open Sys2Proof

/-! ### What an operation does, by its kind -/

theorem exec_newBridge (h : TransportId) (s : State) :
    exec (.newBridge h) s = .next ((s.construct h).deliver .newBridge (.bridge h)) := rfl

theorem exec_call (c : Call) (s : State) : exec c.instr s = startCall c s := by cases c <;> rfl

theorem exec_call_of_idle {s : State} (c : Call) (h : s.phase = .idle) :
    exec c.instr s = .next (s.setPhase (.build c)).continueCall := by
  rw [exec_call, startCall, if_pos h]

/-- A codec operation delivers one result, the same in every state (R15). -/
theorem exec_codec {i : Instr} (h : i.op.isCodec = true) :
    ∃ r, ∀ s, exec i s = .next (s.deliver i.op r) := by
  cases i with
  | encw be a d => exact ⟨_, fun _ => rfl⟩
  | encr be a => exact ⟨_, fun _ => rfl⟩
  | encrsp u r k e be => exact ⟨_, fun _ => rfl⟩
  | decrsp b => exact ⟨_, fun s => congrArg _ (s.conclude_eq ..)⟩
  | decw b => exact ⟨_, fun s => congrArg _ (s.conclude_eq ..)⟩
  | decr b => exact ⟨_, fun s => congrArg _ (s.conclude_eq ..)⟩
  | cmdkind b => exact ⟨_, fun s => congrArg _ (s.conclude_eq ..)⟩
  | _ => nomatch h

theorem startCall_next {c : Call} {s t : State} (h : startCall c s = .next t) :
    s.phase = .idle ∧ t = (s.setPhase (.build c)).continueCall := by
  unfold startCall at h
  split at h
  · cases h; exact ⟨‹_›, rfl⟩
  · nomatch h

theorem startTransfer_next {out : Bytes} {s t : State} (h : startTransfer out s = .next t) :
    s.phase = .idle ∧ t = (s.beginTransfer none out).continueCall := by
  unfold startTransfer at h
  split at h
  · cases h; exact ⟨‹_›, rfl⟩
  · nomatch h

/-- Everything `exec` can answer a next state with. -/
theorem exec_next_cases {i : Instr} {s t : State} (h : exec i s = .next t) :
    (i.op.isCodec = true ∧ ∃ r, t = s.deliver i.op r) ∨
    (∃ k, i = .newBridge k ∧ t = (s.construct k).deliver .newBridge (.bridge k)) ∨
    (∃ out, i = .xfer out ∧ s.phase = .idle ∧ t = (s.beginTransfer none out).continueCall) ∨
    (∃ c : Call, i = c.instr ∧ s.phase = .idle ∧ t = (s.setPhase (.build c)).continueCall) := by
  obtain hc | ⟨k, rfl⟩ | ⟨out, rfl⟩ | ⟨c, rfl⟩ := i.kind_cases
  · obtain ⟨r, hr⟩ := exec_codec hc
    rw [hr s] at h
    cases h
    exact .inl ⟨hc, r, rfl⟩
  · rw [exec_newBridge] at h
    cases h
    exact .inr (.inl ⟨k, rfl, rfl⟩)
  · exact .inr (.inr (.inl ⟨out, rfl, startTransfer_next h⟩))
  · rw [exec_call] at h
    exact .inr (.inr (.inr ⟨c, rfl, startCall_next h⟩))

/-! ### What a step does, by the phase and the first request -/

theorem step_of_no_request {s : State} (h : s.phase = .idle) (hr : s.requests = []) : step s = .next s := by
  simp only [step, h, hr]

theorem step_of_request {s : State} {r : Request} {rest : List Request} {i : Instr} (h : s.phase = .idle)
    (hr : s.requests = r :: rest) (hd : decode r = .ok i) : step s = exec i (s.setRequests rest) := by
  simp only [step, h, hr, hd]

theorem step_of_undecodable {s : State} {r : Request} {rest : List Request} {why : DecodeError}
    (h : s.phase = .idle) (hr : s.requests = r :: rest) (hd : decode r = .error why) :
    step s = .refused (.undecodable why) := by
  simp only [step, h, hr, hd]

/-- Everything `step` can answer a next state with. -/
theorem step_next_cases {s t : State} (h : step s = .next t) :
    (s.phase = .idle ∧ s.requests = [] ∧ t = s) ∨
    (∃ r rest i, s.phase = .idle ∧ s.requests = r :: rest ∧ decode r = .ok i ∧
      exec i (s.setRequests rest) = .next t) ∨
    (s.phase ≠ .idle ∧ t = s.continueCall) := by
  by_cases hp : s.phase = .idle
  · cases hr : s.requests with
    | nil =>
      rw [step_of_no_request hp hr] at h
      cases h
      exact .inl ⟨hp, rfl, rfl⟩
    | cons r rest =>
      cases hd : decode r with
      | ok i =>
        rw [step_of_request hp hr hd] at h
        exact .inr (.inl ⟨r, rest, i, hp, rfl, hd, h⟩)
      | error why =>
        rw [step_of_undecodable hp hr hd] at h
        nomatch h
  · rw [step_of_busy hp] at h
    cases h
    exact .inr (.inr ⟨hp, rfl⟩)

/-! ### What a call leaves unchanged -/

/-- What no step of a call touches: the transport handle (R18), the older Bridges and the caller's other requests. -/
structure State.CallFrame (s t : State) : Prop where
  transport : t.transport = s.transport
  others : t.others = s.others
  requests : t.requests = s.requests

theorem State.CallFrame.trans {s t u : State} (h : s.CallFrame t) (h' : t.CallFrame u) : s.CallFrame u :=
  ⟨h'.transport.trans h.transport, h'.others.trans h.others, h'.requests.trans h.requests⟩

theorem State.deliver_frame (op : Op) (r : Result) (s : State) : s.CallFrame (s.deliver op r) := ⟨rfl, rfl, rfl⟩

theorem State.setPhase_frame (p : Phase) (s : State) : s.CallFrame (s.setPhase p) := ⟨rfl, rfl, rfl⟩

theorem State.beginTransfer_frame (call : Option Call) (out : Bytes) (s : State) :
    s.CallFrame (s.beginTransfer call out) := ⟨rfl, rfl, rfl⟩

theorem State.takeAnswer_frame (call : Option Call) (a : Answer) (s : State) :
    s.CallFrame (s.takeAnswer call a) := by
  cases a <;> cases call <;> exact ⟨rfl, rfl, rfl⟩

theorem State.buildStep_frame (s : State) : s.CallFrame s.buildStep := by
  unfold State.buildStep
  split <;> exact ⟨rfl, rfl, rfl⟩

theorem State.transferStep_frame (s : State) : s.CallFrame s.transferStep := by
  unfold State.transferStep
  split
  · have hdrawn : s.CallFrame s.drawn := ⟨rfl, rfl, rfl⟩
    exact hdrawn.trans (State.takeAnswer_frame ..)
  · exact ⟨rfl, rfl, rfl⟩

theorem State.decodeStep_frame (s : State) : s.CallFrame s.decodeStep := by
  unfold State.decodeStep
  split
  · split <;> exact ⟨rfl, rfl, rfl⟩
  · exact ⟨rfl, rfl, rfl⟩

theorem State.validateStep_frame (s : State) : s.CallFrame s.validateStep := by
  unfold State.validateStep
  split
  · split <;> exact ⟨rfl, rfl, rfl⟩
  · exact ⟨rfl, rfl, rfl⟩

theorem State.returnStep_frame (s : State) : s.CallFrame s.returnStep := by
  unfold State.returnStep
  split <;> exact ⟨rfl, rfl, rfl⟩

theorem State.continueCall_frame (s : State) : s.CallFrame s.continueCall :=
  s.buildStep_frame.trans <| (State.transferStep_frame _).trans <| (State.decodeStep_frame _).trans <|
    (State.validateStep_frame _).trans (State.returnStep_frame _)

/-- No operation but `NEW` touches the handle, the older Bridges or the other requests (R18, R71). -/
theorem exec_frame {i : Instr} {s t : State} (h : exec i s = .next t) (hi : i.op ≠ .newBridge) :
    s.CallFrame t := by
  obtain ⟨-, r, rfl⟩ | ⟨k, rfl, -⟩ | ⟨out, -, -, rfl⟩ | ⟨c, -, -, rfl⟩ := exec_next_cases h
  · exact s.deliver_frame _ _
  · exact absurd rfl hi
  · exact (s.beginTransfer_frame _ _).trans (State.continueCall_frame _)
  · exact (s.setPhase_frame _).trans (State.continueCall_frame _)

end Sys2Proof.Machine
end

section
/-! SUPPORT. A call phase by phase: the single step of each phase, the phase it leaves, and what the call ends with
where the transport answers with a buffer. -/

namespace Sys2Proof.Machine

open Sys2Proof

/-! ### The step `advance` takes, by the phase -/

theorem State.advance_of_build {s : State} {c : Call} (h : s.phase = .build c) : s.advance = s.buildStep := by
  simp only [State.advance, h]

theorem State.advance_of_transfer {s : State} {c : Option Call} {out : Bytes} (h : s.phase = .transfer c out) :
    s.advance = s.transferStep := by
  simp only [State.advance, h]

/-- No call is left to go on with, or it stands at step 3. The next two are the same for steps 4 and 5. -/
def Phase.idleOrDecode (p : Phase) : Prop := p = .idle ∨ ∃ c b, p = .decode c b

def Phase.idleOrValidate (p : Phase) : Prop := p = .idle ∨ ∃ c rsp, p = .validate c rsp

def Phase.idleOrReturn (p : Phase) : Prop := p = .idle ∨ ∃ c rsp, p = .ret c rsp

theorem State.advance_eq_decodeStep {s : State} (h : s.phase.idleOrDecode) : s.advance = s.decodeStep := by
  obtain h | ⟨c, b, h⟩ := h <;> simp only [State.advance, State.decodeStep, h]

theorem State.advance_eq_validateStep {s : State} (h : s.phase.idleOrValidate) : s.advance = s.validateStep := by
  obtain h | ⟨c, rsp, h⟩ := h <;> simp only [State.advance, State.validateStep, h]

theorem State.advance_eq_returnStep {s : State} (h : s.phase.idleOrReturn) : s.advance = s.returnStep := by
  obtain h | ⟨c, rsp, h⟩ := h <;> simp only [State.advance, State.returnStep, h]

/-! ### The phase each step leaves -/

theorem State.takeAnswer_phase {c : Call} {a : Answer} (ha : a ≠ .pending) (s : State) :
    (s.takeAnswer (some c) a).phase.idleOrDecode := by
  cases a with
  | pending => exact absurd rfl ha
  | fail => exact .inl rfl
  | bytes b => exact .inr ⟨c, b, rfl⟩

theorem State.decodeStep_phase {s : State} (h : s.phase.idleOrDecode) : s.decodeStep.phase.idleOrValidate := by
  obtain h | ⟨c, b, h⟩ := h
  · rw [State.decodeStep_of_ne (by simp [h])]
    exact .inl h
  · cases hd : decodeResponse b with
    | ok rsp => rw [State.decodeStep_ok h hd]; exact .inr ⟨c, rsp, rfl⟩
    | error f => rw [State.decodeStep_error h hd]; exact .inl rfl

theorem State.validateStep_phase {s : State} (h : s.phase.idleOrValidate) : s.validateStep.phase.idleOrReturn := by
  obtain h | ⟨c, rsp, h⟩ := h
  · rw [State.validateStep_of_ne (by simp [h])]
    exact .inl h
  · cases hv : validate rsp with
    | ok _ => rw [State.validateStep_ok h hv]; exact .inr ⟨c, rsp, rfl⟩
    | error f => rw [State.validateStep_error h hv]; exact .inl rfl

/-! ### The first two steps together, and the last three -/

/-- Steps 3 to 5 (R17). -/
def State.finish (s : State) : State := s.decodeStep.validateStep.returnStep

theorem State.finish_of_transfer {s : State} {c : Option Call} {out : Bytes} (h : s.phase = .transfer c out) :
    s.finish = s := by
  rw [State.finish, State.decodeStep_of_ne (by simp [h]), State.validateStep_of_ne (by simp [h]),
    State.returnStep_of_ne (by simp [h])]

theorem State.advance_thrice {s : State} (h : s.phase.idleOrDecode) : s.advance.advance.advance = s.finish := by
  have hv := State.decodeStep_phase h
  have hr := State.validateStep_phase hv
  rw [State.advance_eq_decodeStep h, State.advance_eq_validateStep hv, State.advance_eq_returnStep hr,
    State.finish]

/-- The command handed over and the answer to it taken: the state after step 2 of a call. -/
def State.exchange (c : Call) (s : State) : State :=
  (s.beginTransfer (some c) c.command).drawn.takeAnswer (some c) (s.answerTo c.command)

theorem State.transferStep_buildStep {s : State} {c : Call} (h : s.phase = .build c) :
    s.buildStep.transferStep = s.exchange c := by
  rw [State.buildStep_of h]
  exact State.transferStep_of rfl

theorem State.continueCall_of_build {s : State} {c : Call} (h : s.phase = .build c) :
    s.continueCall = (s.exchange c).finish := by
  rw [State.continueCall, State.transferStep_buildStep h, State.finish]

theorem State.advance_advance_of_build {s : State} {c : Call} (h : s.phase = .build c) :
    s.advance.advance = s.exchange c := by
  have ht : s.buildStep.phase = .transfer (some c) c.command := by rw [State.buildStep_of h]; rfl
  rw [State.advance_of_build h, State.advance_of_transfer ht, State.transferStep_buildStep h]

/-! ### A call as its single steps (R17) -/

theorem State.continueCall_eq_advance_five {s : State} {c : Call} (h : s.phase = .build c)
    (ha : s.answerTo c.command ≠ .pending) : s.continueCall = State.advance^[5] s := by
  calc s.continueCall
    _ = (s.exchange c).finish := State.continueCall_of_build h
    _ = (s.exchange c).advance.advance.advance := (State.advance_thrice (State.takeAnswer_phase ha _)).symm
    _ = State.advance^[5] s := by rw [← State.advance_advance_of_build h]; rfl

theorem State.continueCall_eq_advance_two {s : State} {c : Call} (h : s.phase = .build c)
    (ha : s.answerTo c.command = .pending) : s.continueCall = State.advance^[2] s := by
  have hwait : (s.exchange c).phase = .transfer (some c) c.command := by rw [State.exchange, ha]; rfl
  calc s.continueCall
    _ = (s.exchange c).finish := State.continueCall_of_build h
    _ = s.exchange c := State.finish_of_transfer hwait
    _ = State.advance^[2] s := (State.advance_advance_of_build h).symm

/-! ### What a call ends with, by the response buffer -/

/-- What steps 3 to 5 make of the response buffer `b` (R73, R74). -/
def Call.outcome (c : Call) (b : Bytes) : Result :=
  match decodeResponse b with
  | .error f => .failed f
  | .ok rsp =>
    match validate rsp with
    | .error f => .failed f
    | .ok _ => c.success rsp

theorem State.finish_of_decode {s : State} {c : Call} {b : Bytes} (h : s.phase = .decode c b) :
    s.finish = s.endCall c.op (c.outcome b) := by
  unfold State.finish Call.outcome
  cases hd : decodeResponse b with
  | error f =>
    rw [State.decodeStep_error h hd]
    rfl
  | ok rsp =>
    have hp : (s.setPhase (.validate c rsp)).phase = .validate c rsp := rfl
    rw [State.decodeStep_ok h hd]
    cases hv : validate rsp with
    | error f =>
      simp only [hv, State.validateStep_error hp hv]
      rfl
    | ok _ =>
      simp only [hv, State.validateStep_ok hp hv]
      rfl

/-- A call answered with a buffer: one frame handed over, one answer drawn, and the buffer's outcome delivered. -/
theorem exec_call_of_bytes {s : State} {c : Call} {b : Bytes} (h : s.phase = .idle)
    (ha : s.answerTo c.command = .bytes b) :
    exec c.instr s = .next ((s.handOver c.command).drawn.endCall c.op (c.outcome b)) := by
  have hbytes : (s.setPhase (.build c)).answerTo c.command = .bytes b := ha
  have hdecode : ((s.setPhase (.build c)).exchange c).phase = .decode c b := by rw [State.exchange, hbytes]; rfl
  rw [exec_call_of_idle c h, State.continueCall_of_build rfl, State.finish_of_decode hdecode, State.exchange, hbytes]
  rfl

end Sys2Proof.Machine
end

section
/-! SUPPORT. The two flags in the status byte of a response frame (10_state.md R22, 30_encoding.md R47). -/

namespace Sys2Proof.Machine

open Sys2Proof

theorem fbit_104 (b : Bytes) : fbit b 104 = ackBit b := rfl

theorem fbit_105 (b : Bytes) : fbit b 105 = errorBit b := rfl

theorem ackBit_encodeResponse (u : Filler) (r : Word) (k e : Bit) (be : Mask) :
    ackBit (encodeResponse u r k e be) = k := by
  have hstatus : ∀ (k e : Bit) (be : Mask), (packStatus k e be >>> 7).setWidth 1 = k := by decide
  exact hstatus k e be

theorem errorBit_encodeResponse (u : Filler) (r : Word) (k e : Bit) (be : Mask) :
    errorBit (encodeResponse u r k e be) = e := by
  have hstatus : ∀ (k e : Bit) (be : Mask), (packStatus k e be >>> 6).setWidth 1 = e := by decide
  exact hstatus k e be

/-- A decoder that returns hands over the fields it was given (R65). -/
theorem eq_of_onFrame_ok {α : Type} {b : Bytes} {x y : α} (h : onFrame b x = .ok y) : y = x := by
  unfold onFrame at h
  split at h
  · cases h; rfl
  · nomatch h

end Sys2Proof.Machine
end

section
/-! PROOFS. The obligations of the family of 10_state.md. -/

namespace Sys2Proof.Proofs

open Sys2Proof Sys2Proof.Machine

/-- Settles O20: a codec operation delivers one result in every state; a `READ` ends with the outcome of the response
buffer, which no state enters. -/
theorem codecOperationsArePure : Obligations.CodecOperationsArePure := by
  refine ⟨fun i hi => exec_codec hi, fun a s s' r hs hs' ha ha' => ?_⟩
  exact ⟨(Call.read a).outcome r, _, _, exec_call_of_bytes (c := .read a) hs ha, rfl,
    exec_call_of_bytes (c := .read a) hs' ha', rfl⟩

/-- Settles O41: after step 2 the call has ended or stands at step 3, and then each single step is the transition's
own; where no answer has come it stays in `Transfer`, where steps 3 to 5 do nothing. -/
theorem atomicCallIsTheFiveSteps : Obligations.AtomicCallIsTheFiveSteps := by
  intro c s hs
  rw [exec_call_of_idle c hs]
  exact ⟨fun ha => congrArg _ (State.continueCall_eq_advance_five rfl ha),
    fun ha => congrArg _ (State.continueCall_eq_advance_two rfl ha)⟩

/-- Settles O42: by the frame of every operation but `NEW`, and of the rest of a call. -/
theorem onlyNewChangesTheHandle : Obligations.OnlyNewChangesTheHandle := by
  refine ⟨fun i s t h => ⟨fun hi => ?_, fun hi => ?_⟩, fun s t h hne => ?_⟩
  · have hframe := exec_frame h hi
    exact ⟨hframe.transport, hframe.others⟩
  · obtain ⟨k, rfl⟩ := Instr.eq_newBridge_of_op hi
    rw [exec_newBridge] at h
    cases h
    rfl
  · obtain ⟨-, -, rfl⟩ | ⟨r, rest, i, hp, hr, hd, hx⟩ | ⟨-, rfl⟩ := step_next_cases h
    · exact absurd rfl hne
    · by_cases hi : i.op = .newBridge
      · obtain ⟨k, rfl⟩ := Instr.eq_newBridge_of_op hi
        rw [exec_newBridge] at hx
        cases hx
        exact ⟨r, rest, k, hp, hr, hd, rfl⟩
      · exact absurd (exec_frame hx hi).transport hne
    · exact absurd s.continueCall_frame.transport hne

/-- Settles O1: the fields of the machine's start, read off. -/
theorem resetIsAnIdleBridge : Obligations.ResetIsAnIdleBridge :=
  ⟨rfl, rfl, rfl, rfl, rfl, rfl, rfl, rfl⟩

/-- Settles O12: the flags are the top two bits of the status byte, which `ENCRSP` packs and `DECRSP` reads. -/
theorem flagsAreResponseBits : Obligations.FlagsAreResponseBits := by
  refine ⟨fun u r k e be => ?_, fun b r h => ?_⟩
  · rw [fbit_104, fbit_105]
    exact ⟨ackBit_encodeResponse u r k e be, errorBit_encodeResponse u r k e be⟩
  · obtain rfl := eq_of_onFrame_ok h
    exact ⟨(fbit_104 b).symm, (fbit_105 b).symm⟩

/-- Settles O24: one clause for each case of a step. -/
theorem stepRunsTheDecodedOperation : Obligations.StepRunsTheDecodedOperation :=
  ⟨fun _ _ _ _ => step_of_request, fun _ _ _ _ => step_of_undecodable, fun _ => step_of_no_request,
    fun _ => step_of_busy⟩

/-- Settles O49: at reset no frame is in flight, none has been sent and no call has ended. -/
theorem resetMeetsTheInvariants : Obligations.ResetMeetsTheInvariants := by
  refine ⟨trivial, fun e he => ?_, rfl⟩
  exact absurd he List.not_mem_nil

end Sys2Proof.Proofs
end

/-! ## Proofs: the family of 20_memory.md -/

section
/-! SUPPORT. The rest of a call as one relation: once its frame has been handed over and the answer drawn, a call
changes the phase and adds at most its own result (10_state.md R17, 42_bridge_ops.md R73). -/

namespace Sys2Proof.Machine

open Sys2Proof

/-- The operation a phase is part of (an `XFER` of its own where a transfer has no call: Log 10). -/
def Phase.op : Phase → Option Op
  | .idle => none
  | .build c => some c.op
  | .transfer call _ => some (call.elim .xfer Call.op)
  | .decode c _ => some c.op
  | .validate c _ => some c.op
  | .ret c _ => some c.op

theorem Phase.eq_idle_of_op {p : Phase} (h : p.op = none) : p = .idle := by
  cases p with
  | idle => rfl
  | _ => nomatch h

theorem Phase.transfers_of_op {p : Phase} {op : Op} (h : p.op = some op) : op.transfers = true := by
  cases p with
  | idle => nomatch h
  | transfer call out =>
    cases h
    cases call with
    | none => rfl
    | some c => exact c.op_transfers
  | build c | decode c b | validate c rsp | ret c rsp => cases h; exact c.op_transfers

/-- From `s` the operation in progress goes on to a later phase, its frame still in flight, or it ends with its own
result; nothing else changes. -/
inductive State.GoesOn (s : State) : State → Prop
  | stay (p : Phase) (hop : p.op = s.phase.op) (hflight : p.inFlight = s.phase.inFlight) : s.GoesOn (s.setPhase p)
  | done {op : Op} (r : Result) (hop : s.phase.op = some op) (hflight : s.phase.inFlight = 1) :
    s.GoesOn (s.endCall op r)

theorem State.GoesOn.refl (s : State) : s.GoesOn s := .stay s.phase rfl rfl

theorem State.GoesOn.trans {s t u : State} (h : s.GoesOn t) (h' : t.GoesOn u) : s.GoesOn u := by
  cases h with
  | stay p hop hflight =>
    cases h' with
    | stay p' hop' hflight' => exact .stay p' (hop'.trans hop) (hflight'.trans hflight)
    | done r hop' hflight' => exact .done r (hop.symm.trans hop') (hflight.symm.trans hflight')
  | done r hop hflight =>
    cases h' with
    | stay p' hop' _ =>
      obtain rfl := Phase.eq_idle_of_op hop'
      exact .done r hop hflight
    | done r' hop' _ => nomatch hop'

/-! ### Each of the steps 2 to 5 goes on -/

theorem State.takeAnswer_goesOn {s : State} {call : Option Call} {out : Bytes} (h : s.phase = .transfer call out)
    (a : Answer) : s.GoesOn (s.takeAnswer call a) := by
  have hflight : s.phase.inFlight = 1 := by rw [h]; rfl
  cases call with
  | none =>
    have hop : s.phase.op = some .xfer := by rw [h]; rfl
    cases a with
    | pending => exact .refl s
    | fail => exact .done .transferFailed hop hflight
    | bytes b => exact .done (.received b) hop hflight
  | some c =>
    have hop : s.phase.op = some c.op := by rw [h]; rfl
    cases a with
    | pending => exact .refl s
    | fail => exact .done (.failed .badWrite) hop hflight
    | bytes b => exact .stay (.decode c b) hop.symm hflight.symm

theorem State.decodeStep_goesOn (s : State) : s.GoesOn s.decodeStep := by
  unfold State.decodeStep
  split
  · split
    · exact .stay _ (by simp [Phase.op, *]) (by simp [*])
    · exact .done _ (by simp [Phase.op, *]) (by simp [*])
  · exact .refl s

theorem State.validateStep_goesOn (s : State) : s.GoesOn s.validateStep := by
  unfold State.validateStep
  split
  · split
    · exact .stay _ (by simp [Phase.op, *]) (by simp [*])
    · exact .done _ (by simp [Phase.op, *]) (by simp [*])
  · exact .refl s

theorem State.returnStep_goesOn (s : State) : s.GoesOn s.returnStep := by
  unfold State.returnStep
  split
  · exact .done _ (by simp [Phase.op, *]) (by simp [*])
  · exact .refl s

theorem State.finish_goesOn (s : State) : s.GoesOn s.finish :=
  s.decodeStep_goesOn.trans <| (State.validateStep_goesOn _).trans (State.returnStep_goesOn _)

/-! ### The rest of a call -/

theorem State.continueCall_goesOn_of_transfer {s : State} {call : Option Call} {out : Bytes}
    (h : s.phase = .transfer call out) : s.drawn.GoesOn s.continueCall := by
  have hstep : s.buildStep.transferStep = s.drawn.takeAnswer call s.nextAnswer := by
    rw [State.buildStep_of_ne (by simp [h]), State.transferStep_of h]
  have hcall : s.continueCall = (s.drawn.takeAnswer call s.nextAnswer).finish := by
    rw [State.continueCall, hstep, State.finish]
  rw [hcall]
  exact (State.takeAnswer_goesOn (s := s.drawn) h _).trans (State.finish_goesOn _)

theorem State.continueCall_goesOn_of_beginTransfer (call : Option Call) (out : Bytes) (s : State) :
    (s.beginTransfer call out).drawn.GoesOn (s.beginTransfer call out).continueCall :=
  State.continueCall_goesOn_of_transfer rfl

theorem State.continueCall_eq_beginTransfer {s : State} {c : Call} (h : s.phase = .build c) :
    s.continueCall = (s.beginTransfer (some c) c.command).continueCall := by
  rw [State.continueCall_of_build h]
  rfl

/-- Everything the rest of a call can do: from `Build` it hands over the call's command and draws once, from
`Transfer` it draws once, and from a later phase (or none) it goes on alone. -/
theorem State.continueCall_cases (s : State) :
    (∃ c, s.phase = .build c ∧ (s.beginTransfer (some c) c.command).drawn.GoesOn s.continueCall) ∨
    (∃ call out, s.phase = .transfer call out ∧ s.drawn.GoesOn s.continueCall) ∨
    s.GoesOn s.continueCall := by
  by_cases hbuild : ∃ c, s.phase = .build c
  · obtain ⟨c, h⟩ := hbuild
    rw [State.continueCall_eq_beginTransfer h]
    exact .inl ⟨c, h, State.continueCall_goesOn_of_beginTransfer ..⟩
  by_cases htransfer : ∃ call out, s.phase = .transfer call out
  · obtain ⟨call, out, h⟩ := htransfer
    exact .inr (.inl ⟨call, out, h, State.continueCall_goesOn_of_transfer h⟩)
  · push Not at hbuild htransfer
    rw [State.continueCall, State.buildStep_of_ne hbuild, State.transferStep_of_ne htransfer]
    exact .inr (.inr s.finish_goesOn)

/-- An operation that transfers hands over its own frame, draws once and goes on from there (R36, R72). -/
theorem exec_of_transfers {i : Instr} {s t : State} (h : exec i s = .next t) (hi : i.op.transfers = true) :
    ∃ call : Option Call, call.elim .xfer Call.op = i.op ∧ s.phase = .idle ∧
      (s.beginTransfer call i.buffer).drawn.GoesOn t := by
  obtain ⟨hc, -⟩ | ⟨k, rfl, -⟩ | ⟨out, rfl, hp, rfl⟩ | ⟨c, rfl, hp, rfl⟩ := exec_next_cases h
  · obtain hx | hx | hx := (Op.transfers_iff _).mp hi <;> simp [hx, Op.isCodec] at hc
  · nomatch hi
  · exact ⟨none, rfl, hp, State.continueCall_goesOn_of_beginTransfer ..⟩
  · refine ⟨some c, c.instr_op.symm, hp, ?_⟩
    rw [c.instr_buffer, State.continueCall_eq_beginTransfer (c := c) rfl]
    exact State.continueCall_goesOn_of_beginTransfer (some c) c.command s

/-- An operation that makes no transfer delivers one result; a Bridge is constructed first where it is `NEW`. -/
theorem exec_of_not_transfers {i : Instr} {s t : State} (h : exec i s = .next t) (hi : i.op.transfers = false) :
    ∃ r, t = s.deliver i.op r ∨ ∃ k, t = (s.construct k).deliver i.op r := by
  obtain ⟨-, r, rfl⟩ | ⟨k, rfl, rfl⟩ | ⟨out, rfl, -⟩ | ⟨c, rfl, -⟩ := exec_next_cases h
  · exact ⟨r, .inl rfl⟩
  · exact ⟨_, .inr ⟨k, rfl⟩⟩
  · nomatch hi
  · rw [c.instr_op, c.op_transfers] at hi
    nomatch hi

end Sys2Proof.Machine
end

section
/-! SUPPORT. The machine's records: what a call, an operation and a step add to the frames sent and to the results
(Log 3), and the count of transfers that each of them keeps (20_memory.md R39). -/

namespace Sys2Proof.Machine

open Sys2Proof

/-! ### What is added -/

theorem State.GoesOn.sent {s t : State} (h : s.GoesOn t) : t.sent = s.sent := by cases h <;> rfl

theorem State.GoesOn.draws {s t : State} (h : s.GoesOn t) : t.draws = s.draws := by cases h <;> rfl

theorem State.GoesOn.answers {s t : State} (h : s.GoesOn t) : t.answers = s.answers := by cases h <;> rfl

/-- At most one result is added, and it is the operation's in progress. -/
theorem State.GoesOn.results {s t : State} (h : s.GoesOn t) :
    ∃ x, t.results = s.results ++ x ∧ x.length ≤ 1 ∧ ∀ e ∈ x, s.phase.op = some e.1 := by
  cases h with
  | stay p _ _ => exact ⟨[], by simp⟩
  | @done op r hop _ => exact ⟨[(op, r)], rfl, le_rfl, by simpa using hop⟩

theorem exec_sent {i : Instr} {s t : State} (h : exec i s = .next t) :
    t.sent = s.sent ++ (if i.op.transfers = true then [(s.transport, i.buffer)] else []) := by
  cases hi : i.op.transfers with
  | true =>
    obtain ⟨call, -, -, hgo⟩ := exec_of_transfers h hi
    exact hgo.sent
  | false => obtain ⟨r, rfl | ⟨k, rfl⟩⟩ := exec_of_not_transfers h hi <;> simp [State.deliver, State.construct]

theorem exec_requests {i : Instr} {s t : State} (h : exec i s = .next t) : t.requests = s.requests := by
  by_cases hi : i.op = .newBridge
  · obtain ⟨k, rfl⟩ := Instr.eq_newBridge_of_op hi
    rw [exec_newBridge] at h
    cases h
    rfl
  · exact (exec_frame h hi).requests

/-- An operation adds at most one result, its own. -/
theorem exec_results {i : Instr} {s t : State} (h : exec i s = .next t) :
    ∃ x, t.results = s.results ++ x ∧ x.length ≤ 1 ∧ ∀ e ∈ x, e.1 = i.op := by
  cases hi : i.op.transfers with
  | true =>
    obtain ⟨call, hop, -, hgo⟩ := exec_of_transfers h hi
    obtain ⟨x, hx, hlen, hown⟩ := hgo.results
    exact ⟨x, hx, hlen, fun e he => (Option.some.inj (hown e he)).symm.trans hop⟩
  | false =>
    obtain ⟨r, hr⟩ := exec_of_not_transfers h hi
    refine ⟨[(i.op, r)], ?_, le_rfl, by simp⟩
    obtain rfl | ⟨k, rfl⟩ := hr <;> rfl

theorem State.continueCall_sent (s : State) :
    s.continueCall.sent = s.sent ∨
      ∃ c, s.phase = .build c ∧ s.continueCall.sent = s.sent ++ [(s.transport, c.command)] := by
  obtain ⟨c, hp, hgo⟩ | ⟨-, -, -, hgo⟩ | hgo := s.continueCall_cases
  · exact .inr ⟨c, hp, hgo.sent⟩
  · exact .inl hgo.sent
  · exact .inl hgo.sent

theorem State.continueCall_results (s : State) : ∃ x, s.continueCall.results = s.results ++ x ∧ x.length ≤ 1 := by
  obtain ⟨_, -, hgo⟩ | ⟨_, _, -, hgo⟩ | hgo := s.continueCall_cases <;>
  · obtain ⟨x, hx, hlen, -⟩ := hgo.results
    exact ⟨x, hx, hlen⟩

/-! ### The count of transfers (R39, R73) -/

theorem State.oneTransferPerCall_drawn (s : State) : s.drawn.oneTransferPerCall ↔ s.oneTransferPerCall := .rfl

theorem State.oneTransferPerCall_setRequests (r : List Request) (s : State) :
    (s.setRequests r).oneTransferPerCall ↔ s.oneTransferPerCall := .rfl

/-- Handing over a frame from a phase with none in flight puts one in flight. -/
theorem State.oneTransferPerCall_beginTransfer {s : State} (hp : s.phase.inFlight = 0) (call : Option Call)
    (out : Bytes) (h : s.oneTransferPerCall) : (s.beginTransfer call out).oneTransferPerCall := by
  have hsent : (s.beginTransfer call out).sent.length = s.sent.length + 1 := List.length_append
  rw [State.oneTransferPerCall, hp] at h
  rw [State.oneTransferPerCall, hsent, h]
  exact Nat.add_right_comm ..

/-- Where an operation goes on its frame stays in flight, and where it ends its result stands for the frame. -/
theorem State.GoesOn.oneTransferPerCall {s t : State} (hgo : s.GoesOn t) (h : s.oneTransferPerCall) :
    t.oneTransferPerCall := by
  cases hgo with
  | stay p _ hflight => simpa [State.oneTransferPerCall, hflight] using h
  | done r hop hflight =>
    have htransfers := Phase.transfers_of_op hop
    rw [State.oneTransferPerCall, hflight] at h
    simpa [State.oneTransferPerCall, State.endCall, State.deliver, htransfers] using h

theorem State.oneTransferPerCall_deliver {op : Op} (hop : op.transfers = false) (r : Result) {s : State}
    (h : s.oneTransferPerCall) : (s.deliver op r).oneTransferPerCall := by
  simpa [State.oneTransferPerCall, State.deliver, hop] using h

/-- `NEW` moves the frame in flight, if there is one, to the older Bridges (Log 4). -/
theorem State.oneTransferPerCall_construct (k : TransportId) {s : State} (h : s.oneTransferPerCall) :
    (s.construct k).oneTransferPerCall := by
  simpa [State.oneTransferPerCall, State.construct, Nat.add_assoc] using h

theorem State.oneTransferPerCall_continueCall {s : State} (h : s.oneTransferPerCall) :
    s.continueCall.oneTransferPerCall := by
  obtain ⟨c, hp, hgo⟩ | ⟨-, -, -, hgo⟩ | hgo := s.continueCall_cases
  · have hflight : s.phase.inFlight = 0 := by rw [hp]; rfl
    exact hgo.oneTransferPerCall (State.oneTransferPerCall_beginTransfer hflight _ _ h)
  · exact hgo.oneTransferPerCall h
  · exact hgo.oneTransferPerCall h

theorem exec_oneTransferPerCall {i : Instr} {s t : State} (h : exec i s = .next t) (hs : s.oneTransferPerCall) :
    t.oneTransferPerCall := by
  cases hi : i.op.transfers with
  | true =>
    obtain ⟨call, -, hp, hgo⟩ := exec_of_transfers h hi
    have hflight : s.phase.inFlight = 0 := by rw [hp]; rfl
    exact hgo.oneTransferPerCall (State.oneTransferPerCall_beginTransfer hflight _ _ hs)
  | false =>
    obtain ⟨r, rfl | ⟨k, rfl⟩⟩ := exec_of_not_transfers h hi
    · exact State.oneTransferPerCall_deliver hi r hs
    · exact State.oneTransferPerCall_deliver hi r (State.oneTransferPerCall_construct k hs)

end Sys2Proof.Machine
end

section
/-! SUPPORT. The 32-bit fields of a frame as four bytes (20_memory.md R28). -/

namespace Sys2Proof.Machine

open Sys2Proof

theorem memRead_four {b : Bytes} {p : Nat} (h : p + 4 ≤ b.length) : memRead b p 4 = (bytes4At b p).toList := by
  have hget : ∀ i, i < 4 → b[p + i]? = some (byteAt b (p + i)) := fun i hi => by
    simp [byteAt, List.getElem?_eq_getElem (show p + i < b.length by omega)]
  apply List.ext_getElem?
  intro i
  rw [memRead, List.getElem?_take, List.getElem?_drop]
  match i with
  | 0 => simpa [bytes4At, Bytes4.toList] using hget 0 (by omega)
  | 1 | 2 | 3 => simp [hget, bytes4At, Bytes4.toList]
  | i + 4 => simp [bytes4At, Bytes4.toList]

/-- The bytes of a field are its value's, least significant first. -/
theorem memRead_wordAt {b : Bytes} {p : Nat} (h : p + 4 ≤ b.length) : memRead b p 4 = (le32 (wordAt b p)).toList := by
  rw [wordAt, le32_unle32, memRead_four h]

theorem length_of_onFrame_ok {α : Type} {b : Bytes} {x y : α} (h : onFrame b x = .ok y) : b.length = 14 := by
  by_contra hb
  rw [onFrame_error hb] at h
  nomatch h

theorem memRead_encodeWrite_address (be : Mask) (a d : Word) :
    memRead (encodeWrite be a d) 1 4 = (le32 a).toList := rfl

theorem memRead_encodeWrite_data (be : Mask) (a d : Word) : memRead (encodeWrite be a d) 5 4 = (le32 d).toList := rfl

theorem memRead_encodeRead_address (be : Mask) (a : Word) : memRead (encodeRead be a) 1 4 = (le32 a).toList := rfl

theorem memRead_encodeResponse_readData (u : Filler) (r : Word) (k e : Bit) (be : Mask) :
    memRead (encodeResponse u r k e be) 9 4 = (le32 r).toList := rfl

theorem wordAt_encodeWrite_address (be : Mask) (a d : Word) : wordAt (encodeWrite be a d) addressByte = a :=
  unle32_le32 a

theorem wordAt_encodeWrite_data (be : Mask) (a d : Word) : wordAt (encodeWrite be a d) dataByte = d :=
  unle32_le32 d

theorem wordAt_encodeRead_address (be : Mask) (a : Word) : wordAt (encodeRead be a) addressByte = a :=
  unle32_le32 a

end Sys2Proof.Machine
end

section
/-! SUPPORT. The result of a call does not depend on its operands, but on its kind and its answer alone (20_memory.md
R33). -/

namespace Sys2Proof.Machine

open Sys2Proof

/-- A call whose transfer fails (R81): one frame handed over, one answer drawn, and `BadWrite` delivered. -/
theorem exec_call_of_fail {s : State} {c : Call} (h : s.phase = .idle) (ha : s.answerTo c.command = .fail) :
    exec c.instr s = .next ((s.handOver c.command).drawn.endCall c.op (.failed .badWrite)) := by
  have hfail : (s.setPhase (.build c)).answerTo c.command = .fail := ha
  rw [exec_call_of_idle c h, State.continueCall_of_build rfl, State.exchange, hfail]
  rfl

theorem State.answerTo_scripted {s : State} {x : Answer} {rest : List Answer} (h : s.answers = x :: rest)
    (out : Bytes) : s.answerTo out = x :=
  State.nextAnswer_scripted (s := s.handOver out) h

/-- Calls that return alike have one outcome of a response buffer. -/
theorem Call.outcome_congr {c c' : Call} (h : ∀ rsp, c.success rsp = c'.success rsp) (b : Bytes) :
    c.outcome b = c'.outcome b := by
  unfold Call.outcome
  simp only [h]

/-- Given an answer that returns, one result for every call that returns as `c₀` does. -/
theorem exec_call_common_result (c₀ : Call) {s : State} {x : Answer} {rest : List Answer} (hs : s.phase = .idle)
    (hx : s.answers = x :: rest) (hret : returns x = true) :
    ∃ res, ∀ c : Call, (∀ rsp, c.success rsp = c₀.success rsp) →
      exec c.instr s = .next ((s.handOver c.command).drawn.endCall c.op res) := by
  cases x with
  | pending => nomatch hret
  | fail => exact ⟨_, fun c _ => exec_call_of_fail hs (State.answerTo_scripted hx _)⟩
  | bytes b =>
    refine ⟨c₀.outcome b, fun c hc => ?_⟩
    rw [← Call.outcome_congr hc]
    exact exec_call_of_bytes hs (State.answerTo_scripted hx _)

/-- The frame a call that has ended handed over last. -/
theorem State.getLast?_sent_endCall (op : Op) (r : Result) (out : Bytes) (s : State) :
    ((s.handOver out).drawn.endCall op r).sent.getLast? = some (s.transport, out) :=
  List.getLast?_concat

end Sys2Proof.Machine
end

section
/-! PROOFS. The obligations of the family of 20_memory.md. -/

namespace Sys2Proof.Proofs

open Sys2Proof Sys2Proof.Machine

/-- Settles O48: a frame handed over is in flight until the result of its operation stands for it. -/
theorem stepKeepsOneTransferPerCall : Obligations.StepKeepsOneTransferPerCall := by
  intro s t hs h
  obtain ⟨-, -, rfl⟩ | ⟨r, rest, i, -, -, -, hx⟩ | ⟨-, rfl⟩ := step_next_cases h
  · exact hs
  · exact exec_oneTransferPerCall hx ((State.oneTransferPerCall_setRequests rest s).mpr hs)
  · exact State.oneTransferPerCall_continueCall hs

/-- Settles O8: an encoder places `le32` of the value, a decoder returns `unle32` of the bytes, and the two are
inverse. -/
theorem wordFieldsAreLittleEndian : Obligations.WordFieldsAreLittleEndian := by
  refine ⟨fun be a d => ?_, memRead_encodeResponse_readData, fun b w h => ?_, fun b c h => ?_, fun b r h => ?_,
    fun be d => ?_⟩
  · exact ⟨memRead_encodeWrite_address be a d, memRead_encodeWrite_data be a d, memRead_encodeRead_address be a⟩
  · have hb := length_of_onFrame_ok h
    obtain rfl := eq_of_onFrame_ok h
    exact ⟨memRead_wordAt (by omega), memRead_wordAt (by omega)⟩
  · have hb := length_of_onFrame_ok h
    obtain rfl := eq_of_onFrame_ok h
    exact memRead_wordAt (by omega)
  · have hb := length_of_onFrame_ok h
    obtain rfl := eq_of_onFrame_ok h
    exact memRead_wordAt (by omega)
  · have hexample : (le32 0x12345678).toList = [0x78, 0x56, 0x34, 0x12] := by decide
    exact ⟨(memRead_encodeWrite_address be _ d).trans hexample, (memRead_encodeRead_address be _).trans hexample⟩

/-- Settles O37: the result is that of the call at address 0, and the frame carries the operands as given. -/
theorem addressNeverDecidesTheResult : Obligations.AddressNeverDecidesTheResult := by
  intro s x rest hs hx hret
  constructor
  · obtain ⟨res, hres⟩ := exec_call_common_result (.read 0) hs hx hret
    refine ⟨res, fun a => ⟨_, hres (.read a) fun _ => rfl, rfl, ?_⟩⟩
    rw [State.getLast?_sent_endCall]
    exact ⟨_, congrArg some (onFrame_ok (encodeRead_length ..) _), wordAt_encodeRead_address ..⟩
  · obtain ⟨res, hres⟩ := exec_call_common_result (.write 0 ⟨0, 0, 0, 0⟩) hs hx hret
    refine ⟨res, fun a d => ⟨_, hres (.write a d) fun _ => rfl, rfl, ?_⟩⟩
    rw [State.getLast?_sent_endCall]
    exact ⟨_, congrArg some (onFrame_ok (encodeWrite_length ..) _), wordAt_encodeWrite_address ..,
      wordAt_encodeWrite_data ..⟩

/-- Settles O43: a transferring operation goes on from the state where its frame has been handed over and one answer
drawn; any other delivers its result. -/
theorem exactlyOneTransferOrNone : Obligations.ExactlyOneTransferOrNone := by
  intro i s t h
  refine ⟨fun hi => ?_, fun hi => ?_, exec_requests h, ?_⟩
  · obtain ⟨call, -, -, hgo⟩ := exec_of_transfers h hi
    exact ⟨hgo.sent, hgo.draws, hgo.answers⟩
  · obtain ⟨r, rfl | ⟨k, rfl⟩⟩ := exec_of_not_transfers h hi <;> exact ⟨rfl, rfl, rfl⟩
  · obtain ⟨x, hx, hlen, -⟩ := exec_results h
    exact ⟨x, hx, hlen⟩

/-- Settles O44: by what the operation taken, or the rest of the call in progress, adds to the records. -/
theorem stepsKeepCallOrder : Obligations.StepsKeepCallOrder := by
  intro s t h
  obtain ⟨hp, hnone, rfl⟩ | ⟨r, rest, i, hp, hr, hd, hx⟩ | ⟨hp, rfl⟩ := step_next_cases h
  · exact ⟨fun r rest _ hr => by simp [hnone] at hr, fun _ _ => rfl, fun hbusy => absurd hp hbusy⟩
  · refine ⟨fun r' rest' _ hr' => ?_, fun _ hnone => by simp [hnone] at hr, fun hbusy => absurd hp hbusy⟩
    obtain ⟨rfl, rfl⟩ := List.cons.inj (hr.symm.trans hr')
    have hsent := exec_sent hx
    have hresults := exec_results hx
    exact ⟨i, hd, exec_requests hx, hsent, hresults⟩
  · exact ⟨fun _ _ hidle => absurd hidle hp, fun hidle => absurd hidle hp,
      fun _ => ⟨s.continueCall_frame.requests, s.continueCall_sent, s.continueCall_results⟩⟩

end Sys2Proof.Proofs
end

/-! ## Proofs: the family of 30_encoding.md -/

section
/-! SUPPORT. Frame bits, bytes and fields (00_scope.md R11, 30_encoding.md R49 to R51): where each bit of a field
stands, and that the bits of a field determine it. -/

namespace Sys2Proof.Machine

open Sys2Proof

/-! ### Bits of a byte -/

theorem extractLsb'_bit {w m n j : Nat} (v : BitVec w) (hj : j < n) :
    (v.extractLsb' m n).extractLsb' j 1 = v.extractLsb' (m + j) 1 := by
  apply BitVec.eq_of_getLsbD_eq
  intro i hi
  obtain rfl : i = 0 := by omega
  simp [hj]

theorem extractLsb'_append_low {w : Nat} (x : BitVec w) (y : Byte) : (x ++ y).extractLsb' 0 8 = y := by
  simp [BitVec.extractLsb'_append_eq_ite]

theorem extractLsb'_append_high {w n : Nat} (x : BitVec w) (y : Byte) (hn : 8 ≤ n) :
    (x ++ y).extractLsb' n 8 = x.extractLsb' (n - 8) 8 := by
  simp [BitVec.extractLsb'_append_eq_ite, show ¬ n < 8 by omega]

theorem fbit_eq (b : Bytes) (k : Nat) : fbit b k = (byteAt b (k / 8)).extractLsb' (7 - k % 8) 1 :=
  BitVec.setWidth_ushiftRight_eq_extractLsb

/-- Value bit `m` of byte `q` is frame bit `8q + 7 - m`. -/
theorem fbit_byte (b : Bytes) (q : Nat) {m : Nat} (hm : m < 8) :
    fbit b (8 * q + 7 - m) = (byteAt b q).extractLsb' m 1 := by
  rw [fbit_eq, show (8 * q + 7 - m) / 8 = q by omega, show 7 - (8 * q + 7 - m) % 8 = m by omega]

/-- The bits of trailing zero bytes are zero. -/
theorem fbit_of_drop_zero {b : Bytes} {q n k : Nat} (h : b.drop q = List.replicate n 0) (hk : 8 * q ≤ k) :
    fbit b k = 0 := by
  have hbyte : byteAt b (k / 8) = (b.drop q).getD (k / 8 - q) 0 := by
    simp [byteAt, show q + (k / 8 - q) = k / 8 by omega]
  rw [fbit_eq, hbyte, h, List.getD_eq_getElem?_getD, List.getElem?_getD_replicate_default_eq]
  exact BitVec.extractLsb'_zero

/-! ### The bits of a field determine it -/

theorem byteAt_congr {b b' : Bytes} {q : Nat} (h : ∀ k, 8 * q ≤ k → k < 8 * q + 8 → fbit b k = fbit b' k) :
    byteAt b q = byteAt b' q := by
  apply BitVec.eq_of_getLsbD_eq
  intro m hm
  have hbit := h (8 * q + 7 - m) (by omega) (by omega)
  rw [fbit_byte b q hm, fbit_byte b' q hm] at hbit
  simpa using congrArg (·.getLsbD 0) hbit

theorem wordAt_congr {b b' : Bytes} {p : Nat} (h : ∀ k, 8 * p ≤ k → k < 8 * p + 32 → fbit b k = fbit b' k) :
    wordAt b p = wordAt b' p := by
  have hbyte : ∀ i < 4, byteAt b (p + i) = byteAt b' (p + i) := fun i hi =>
    byteAt_congr fun k hk hk' => h k (by omega) (by omega)
  have hbytes : bytes4At b p = bytes4At b' p := by
    simp only [bytes4At, Bytes4.mk.injEq]
    exact ⟨hbyte 0 (by omega), hbyte 1 (by omega), hbyte 2 (by omega), hbyte 3 (by omega)⟩
  rw [wordAt, hbytes, wordAt]

theorem maskAt_eq (b : Bytes) (q : Nat) : maskAt b q = (byteAt b q).extractLsb' 0 4 := by
  have hnibble : ∀ x : Byte, (x &&& 0x0F).setWidth 4 = x.extractLsb' 0 4 := by decide
  exact hnibble _

/-- Mask bit `3 - i` is bit `4 + i` of its byte (R49, decision D4). -/
theorem maskAt_bit (b : Bytes) (q : Nat) {i : Nat} (hi : i < 4) :
    (maskAt b q).extractLsb' (3 - i) 1 = fbit b (8 * q + 4 + i) := by
  rw [maskAt_eq, extractLsb'_bit _ (by omega), Nat.zero_add, ← fbit_byte b q (by omega)]
  congr 1
  omega

theorem maskAt_command_bit (b : Bytes) {i : Nat} (hi : i < 4) :
    (maskAt b commandMaskByte).extractLsb' (3 - i) 1 = fbit b (4 + i) := by
  simpa [commandMaskByte] using maskAt_bit b 0 hi

theorem maskAt_response_bit (b : Bytes) {i : Nat} (hi : i < 4) :
    (maskAt b statusByte).extractLsb' (3 - i) 1 = fbit b (108 + i) :=
  maskAt_bit b 13 hi

theorem maskAt_congr {b b' : Bytes} {q : Nat} (h : ∀ k, 8 * q + 4 ≤ k → k < 8 * q + 8 → fbit b k = fbit b' k) :
    maskAt b q = maskAt b' q := by
  apply BitVec.eq_of_getLsbD_eq
  intro m hm
  have hbit := h (8 * q + 4 + (3 - m)) (by omega) (by omega)
  rw [← maskAt_bit b q (by omega), ← maskAt_bit b' q (by omega), Nat.sub_sub_self (by omega)] at hbit
  simpa using congrArg (·.getLsbD 0) hbit

/-! ### A 32-bit field (R50) -/

/-- On encode byte `i` of the field is value bits `8i + 7` to `8i`. -/
theorem byteAt_of_memRead {b : Bytes} {p : Nat} {v : Word} (h : memRead b p 4 = (le32 v).toList) {i : Nat}
    (hi : i < 4) : byteAt b (p + i) = v.extractLsb' (8 * i) 8 := by
  have hbyte : byteAt b (p + i) = (memRead b p 4).getD i 0 := by
    simp [byteAt, memRead, hi]
  rw [hbyte, h]
  interval_cases i <;> rfl

/-- On encode value bit `j` of the field is bit `7 - j mod 8` of byte `p + j div 8`. -/
theorem fbit_of_memRead {b : Bytes} {p : Nat} {v : Word} (h : memRead b p 4 = (le32 v).toList) {j : Nat}
    (hj : j < 32) : fbit b (8 * (p + j / 8) + 7 - j % 8) = v.extractLsb' j 1 := by
  rw [fbit_byte _ _ (by omega), byteAt_of_memRead h (by omega), extractLsb'_bit _ (by omega), Nat.div_add_mod]

/-- On decode the field is the weighted sum of its bytes. -/
theorem wordAt_toNat (b : Bytes) (p : Nat) :
    (wordAt b p).toNat = (byteAt b p).toNat + 2 ^ 8 * (byteAt b (p + 1)).toNat +
      2 ^ 16 * (byteAt b (p + 2)).toNat + 2 ^ 24 * (byteAt b (p + 3)).toNat :=
  unle32_toNat (bytes4At b p)

/-! ### The filler (R51, decision D6) -/

theorem byteAt_encodeResponse_filler (u : Filler) (r : Word) (k e : Bit) (be : Mask) {i : Nat} (hi : i < 9) :
    byteAt (encodeResponse u r k e be) i = u.extractLsb' (64 - 8 * i) 8 := by
  interval_cases i <;> rfl

theorem fbit_encodeResponse_filler (u : Filler) (r : Word) (k e : Bit) (be : Mask) {j : Nat} (hj : j < 72) :
    fbit (encodeResponse u r k e be) j = u.extractLsb' (71 - j) 1 := by
  rw [fbit_eq, byteAt_encodeResponse_filler _ _ _ _ _ (by omega), extractLsb'_bit _ (by omega),
    show 64 - 8 * (j / 8) + (7 - j % 8) = 71 - j by omega]

/-- The bytes below byte `i` are dropped one by one; then byte `i` is the lowest. -/
theorem fillerOf_byte (b : Bytes) {i : Nat} (hi : i < 9) : (fillerOf b).extractLsb' (64 - 8 * i) 8 = byteAt b i := by
  unfold fillerOf
  interval_cases i <;> repeat refine (extractLsb'_append_high _ _ (by omega)).trans ?_
  · exact BitVec.extractLsb'_eq_self
  all_goals exact extractLsb'_append_low ..

theorem filler_ext {u u' : Filler} (h : ∀ i < 9, u.extractLsb' (64 - 8 * i) 8 = u'.extractLsb' (64 - 8 * i) 8) :
    u = u' := by
  apply BitVec.eq_of_getLsbD_eq
  intro j hj
  have hbyte := congrArg (·.getLsbD (j % 8)) (h (8 - j / 8) (by omega))
  simpa [Nat.mod_lt, show 64 - 8 * (8 - j / 8) + j % 8 = j by omega] using hbyte

theorem fillerOf_encodeResponse (u : Filler) (r : Word) (k e : Bit) (be : Mask) :
    fillerOf (encodeResponse u r k e be) = u :=
  filler_ext fun _ hi => (fillerOf_byte _ hi).trans (byteAt_encodeResponse_filler u r k e be hi)

end Sys2Proof.Machine
end

section
/-! SUPPORT. What the codec does with its own frames: the fields of an encoded frame, the reserved bits (30_encoding.md
R54), and the decoders undoing the encoders. -/

namespace Sys2Proof.Machine

open Sys2Proof

/-! ### The mask and the data of an encoded frame (R49) -/

theorem maskAt_encodeWrite (be : Mask) (a d : Word) : maskAt (encodeWrite be a d) commandMaskByte = be := by
  have hbyte : ∀ be : Mask, ((0x80 ||| zextMask be) &&& 0x0F).setWidth 4 = be := by decide
  exact hbyte be

theorem maskAt_encodeRead (be : Mask) (a : Word) : maskAt (encodeRead be a) commandMaskByte = be := by
  have hbyte : ∀ be : Mask, (zextMask be &&& 0x0F).setWidth 4 = be := by decide
  exact hbyte be

theorem maskAt_encodeResponse (u : Filler) (r : Word) (k e : Bit) (be : Mask) :
    maskAt (encodeResponse u r k e be) statusByte = be := by
  have hbyte : ∀ (k e : Bit) (be : Mask), (packStatus k e be &&& 0x0F).setWidth 4 = be := by decide
  exact hbyte k e be

theorem maskAt_command (c : Call) : maskAt c.command commandMaskByte = Config.bridgeMask := by
  cases c with
  | read a => exact maskAt_encodeRead ..
  | write a d => exact maskAt_encodeWrite ..

theorem markerBit_encodeWrite (be : Mask) (a d : Word) : markerBit (encodeWrite be a d) = 1 := by
  have hbyte : ∀ be : Mask, ((0x80 ||| zextMask be) >>> 7).setWidth 1 = (1 : Bit) := by decide
  exact hbyte be

theorem wordAt_encodeResponse_readData (u : Filler) (r : Word) (k e : Bit) (be : Mask) :
    wordAt (encodeResponse u r k e be) readDataByte = r :=
  unle32_le32 r

theorem bytes4At_encodeWrite_data (be : Mask) (a : Word) (d : Bytes4) :
    bytes4At (encodeWrite be a (unle32 d)) dataByte = d :=
  le32_unle32 d

/-! ### The decoders undo the encoders (R64 c) -/

theorem decodeWrite_encodeWrite (be : Mask) (a d : Word) : decodeWrite (encodeWrite be a d) = .ok ⟨1, be, a, d⟩ := by
  rw [decodeWrite, onFrame_ok (encodeWrite_length ..), markerBit_encodeWrite, maskAt_encodeWrite,
    wordAt_encodeWrite_address, wordAt_encodeWrite_data]

theorem decodeRead_encodeRead (be : Mask) (a : Word) : decodeRead (encodeRead be a) = .ok ⟨be, a⟩ := by
  rw [decodeRead, onFrame_ok (encodeRead_length ..), maskAt_encodeRead, wordAt_encodeRead_address]

theorem decodeResponse_encodeResponse (u : Filler) (r : Word) (k e : Bit) (be : Mask) :
    decodeResponse (encodeResponse u r k e be) = .ok ⟨r, k, e, be⟩ := by
  rw [decodeResponse, onFrame_ok (encodeResponse_length ..), wordAt_encodeResponse_readData,
    ackBit_encodeResponse, errorBit_encodeResponse, maskAt_encodeResponse]

/-! ### Reserved bits (R54) -/

theorem fbit_encodeWrite_reserved (be : Mask) (a d : Word) {k : Nat} (hk : (1 ≤ k ∧ k ≤ 3) ∨ (72 ≤ k ∧ k ≤ 111)) :
    fbit (encodeWrite be a d) k = 0 := by
  obtain ⟨h1, h3⟩ | ⟨h72, -⟩ := hk
  · have hnibble : ∀ (be : Mask) (m : Fin 3), ((0x80 ||| zextMask be).extractLsb' (4 + m) 1 : Bit) = 0 := by decide
    rw [fbit_eq, show k / 8 = 0 by omega, show 7 - k % 8 = 4 + (3 - k) by omega]
    exact hnibble be ⟨3 - k, by omega⟩
  · exact fbit_of_drop_zero (q := 9) (n := 5) rfl h72

theorem fbit_encodeRead_reserved (be : Mask) (a : Word) {k : Nat} (hk : k ≤ 3 ∨ (40 ≤ k ∧ k ≤ 111)) :
    fbit (encodeRead be a) k = 0 := by
  obtain h3 | ⟨h40, -⟩ := hk
  · have hnibble : ∀ (be : Mask) (m : Fin 4), ((zextMask be).extractLsb' (4 + m) 1 : Bit) = 0 := by decide
    rw [fbit_eq, show k / 8 = 0 by omega, show 7 - k % 8 = 4 + (3 - k) by omega]
    exact hnibble be ⟨3 - k, by omega⟩
  · exact fbit_of_drop_zero (q := 5) (n := 9) rfl h40

theorem fbit_encodeResponse_reserved (u : Filler) (r : Word) (ack error : Bit) (be : Mask) {k : Nat}
    (hk : k = 106 ∨ k = 107) : fbit (encodeResponse u r ack error be) k = 0 := by
  have hstatus : ∀ (k e : Bit) (be : Mask), (packStatus k e be >>> 5).setWidth 1 = (0 : Bit) ∧
      (packStatus k e be >>> 4).setWidth 1 = (0 : Bit) := by decide
  obtain rfl | rfl := hk
  · exact (hstatus ack error be).1
  · exact (hstatus ack error be).2

/-! ### The decoders read the field bits alone -/

theorem markerBit_eq (b : Bytes) : markerBit b = fbit b 0 := rfl

theorem onFrame_congr {α : Type} {b b' : Bytes} (h : b.length = b'.length) (x : α) : onFrame b x = onFrame b' x := by
  rw [onFrame, onFrame, h]

theorem decodeWrite_congr {b b' : Bytes} (hlen : b.length = b'.length)
    (h : ∀ k, k = 0 ∨ (4 ≤ k ∧ k ≤ 71) → fbit b k = fbit b' k) : decodeWrite b = decodeWrite b' := by
  have hmarker : markerBit b = markerBit b' := h 0 (.inl rfl)
  have hmask : maskAt b commandMaskByte = maskAt b' commandMaskByte :=
    maskAt_congr fun k hk hk' => h k (by simp only [commandMaskByte] at *; omega)
  have haddress : wordAt b addressByte = wordAt b' addressByte :=
    wordAt_congr fun k hk hk' => h k (by simp only [addressByte] at *; omega)
  have hdata : wordAt b dataByte = wordAt b' dataByte :=
    wordAt_congr fun k hk hk' => h k (by simp only [dataByte] at *; omega)
  rw [decodeWrite, hmarker, hmask, haddress, hdata]
  exact onFrame_congr hlen _

theorem decodeRead_congr {b b' : Bytes} (hlen : b.length = b'.length)
    (h : ∀ k, 4 ≤ k ∧ k ≤ 39 → fbit b k = fbit b' k) : decodeRead b = decodeRead b' := by
  have hmask : maskAt b commandMaskByte = maskAt b' commandMaskByte :=
    maskAt_congr fun k hk hk' => h k (by simp only [commandMaskByte] at *; omega)
  have haddress : wordAt b addressByte = wordAt b' addressByte :=
    wordAt_congr fun k hk hk' => h k (by simp only [addressByte] at *; omega)
  rw [decodeRead, hmask, haddress]
  exact onFrame_congr hlen _

theorem decodeResponse_congr {b b' : Bytes} (hlen : b.length = b'.length)
    (h : ∀ k, (72 ≤ k ∧ k ≤ 105) ∨ (108 ≤ k ∧ k ≤ 111) → fbit b k = fbit b' k) :
    decodeResponse b = decodeResponse b' := by
  have hreadData : wordAt b readDataByte = wordAt b' readDataByte :=
    wordAt_congr fun k hk hk' => h k (by simp only [readDataByte] at *; omega)
  have hack : ackBit b = ackBit b' := h 104 (by omega)
  have herror : errorBit b = errorBit b' := h 105 (by omega)
  have hmask : maskAt b statusByte = maskAt b' statusByte :=
    maskAt_congr fun k hk hk' => h k (by simp only [statusByte] at *; omega)
  rw [decodeResponse, hreadData, hack, herror, hmask]
  exact onFrame_congr hlen _

theorem commandKind_congr {b b' : Bytes} (hlen : b.length = b'.length) (h : fbit b 0 = fbit b' 0) :
    commandKind b = commandKind b' := by
  rw [commandKind, markerBit_eq, h]
  exact onFrame_congr hlen _

/-! ### The decode family as operations -/

theorem exec_decrsp (b : Bytes) (s : State) :
    exec (.decrsp b) s = .next (s.conclude .decrsp .response (decodeResponse b)) := rfl

theorem exec_decw (b : Bytes) (s : State) :
    exec (.decw b) s = .next (s.conclude .decw .writeCommand (decodeWrite b)) := rfl

theorem exec_decr (b : Bytes) (s : State) :
    exec (.decr b) s = .next (s.conclude .decr .readCommand (decodeRead b)) := rfl

theorem exec_cmdkind (b : Bytes) (s : State) :
    exec (.cmdkind b) s = .next (s.conclude .cmdkind .kind (commandKind b)) := rfl

/-- Of 14 bytes a decoder delivers its fields (R65). -/
theorem State.conclude_onFrame {α : Type} {b : Bytes} (h : b.length = 14) (op : Op) (wrap : α → Result) (x : α)
    (s : State) : s.conclude op wrap (onFrame b x) = s.deliver op (wrap x) := by
  rw [onFrame_ok h]
  rfl

end Sys2Proof.Machine
end

section
/-! SUPPORT. The rows of the operation table (30_encoding.md R53, R59): what it takes to fit one, and that the frames
that fit an encoder's row are the encoder's. -/

namespace Sys2Proof.Machine

open Sys2Proof

/-! ### What it takes to fit a row -/

theorem fits_iff {op : Op} {b : Bytes} :
    op.fits b = true ↔ b.length = 14 ∧ List.zipWith (· &&& ·) b op.mask = op.fixed := by
  simp [Op.fits, isFrame, Config.frameBytes]

theorem byte_and_255 (x : Byte) : x &&& 255#8 = x := BitVec.and_allOnes

theorem fits_encw_iff {b : Bytes} (hb : b.length = 14) :
    Op.encw.fits b = true ↔ byteAt b 0 &&& 0xF0 = 0x80 ∧ b.drop 9 = List.replicate 5 0 := by
  have hmask : Op.encw.mask = [0xF0, 0, 0, 0, 0, 0, 0, 0, 0, 0xFF, 0xFF, 0xFF, 0xFF, 0xFF] := by decide
  have hfixed : Op.encw.fixed = [0x80, 0, 0, 0, 0, 0, 0, 0, 0, 0, 0, 0, 0, 0] := by decide
  rw [fits_iff, hmask, hfixed]
  obtain ⟨b0, b1, b2, b3, b4, b5, b6, b7, b8, b9, b10, b11, b12, b13, rfl⟩ := frame_cases hb
  simp [byteAt, List.replicate, byte_and_255]

theorem fits_encr_iff {b : Bytes} (hb : b.length = 14) :
    Op.encr.fits b = true ↔ byteAt b 0 &&& 0xF0 = 0 ∧ b.drop 5 = List.replicate 9 0 := by
  have hmask : Op.encr.mask = [0xF0, 0, 0, 0, 0, 0xFF, 0xFF, 0xFF, 0xFF, 0xFF, 0xFF, 0xFF, 0xFF, 0xFF] := by decide
  have hfixed : Op.encr.fixed = [0, 0, 0, 0, 0, 0, 0, 0, 0, 0, 0, 0, 0, 0] := by decide
  rw [fits_iff, hmask, hfixed]
  obtain ⟨b0, b1, b2, b3, b4, b5, b6, b7, b8, b9, b10, b11, b12, b13, rfl⟩ := frame_cases hb
  simp [byteAt, List.replicate, byte_and_255]

theorem fits_encrsp_iff {b : Bytes} (hb : b.length = 14) :
    Op.encrsp.fits b = true ↔ byteAt b 13 &&& 0x30 = 0 := by
  have hmask : Op.encrsp.mask = [0, 0, 0, 0, 0, 0, 0, 0, 0, 0, 0, 0, 0, 0x30] := by decide
  have hfixed : Op.encrsp.fixed = [0, 0, 0, 0, 0, 0, 0, 0, 0, 0, 0, 0, 0, 0] := by decide
  rw [fits_iff, hmask, hfixed]
  obtain ⟨b0, b1, b2, b3, b4, b5, b6, b7, b8, b9, b10, b11, b12, b13, rfl⟩ := frame_cases hb
  simp [byteAt]

/-- The row of `READ` is that of `ENCR` with the mask fixed to `1111`. -/
theorem fits_read_iff {b : Bytes} (hb : b.length = 14) :
    Op.read.fits b = true ↔ Op.encr.fits b = true ∧ maskAt b commandMaskByte = Config.bridgeMask := by
  have hmask : Op.read.mask = [0xFF, 0, 0, 0, 0, 0xFF, 0xFF, 0xFF, 0xFF, 0xFF, 0xFF, 0xFF, 0xFF, 0xFF] := by decide
  have hfixed : Op.read.fixed = [0x0F, 0, 0, 0, 0, 0, 0, 0, 0, 0, 0, 0, 0, 0] := by decide
  have hbyte : ∀ x : Byte, x = 0x0F ↔ x &&& 0xF0 = 0 ∧ (x &&& 0x0F).setWidth 4 = Config.bridgeMask := by decide
  rw [fits_encr_iff hb, and_right_comm, maskAt, commandMaskByte, ← hbyte, fits_iff, hmask, hfixed]
  obtain ⟨b0, b1, b2, b3, b4, b5, b6, b7, b8, b9, b10, b11, b12, b13, rfl⟩ := frame_cases hb
  simp [byteAt, List.replicate, byte_and_255]

/-- The row of `WRITE` is that of `ENCW` with the mask fixed to `1111`. -/
theorem fits_write_iff {b : Bytes} (hb : b.length = 14) :
    Op.write.fits b = true ↔ Op.encw.fits b = true ∧ maskAt b commandMaskByte = Config.bridgeMask := by
  have hmask : Op.write.mask = [0xFF, 0, 0, 0, 0, 0, 0, 0, 0, 0xFF, 0xFF, 0xFF, 0xFF, 0xFF] := by decide
  have hfixed : Op.write.fixed = [0x8F, 0, 0, 0, 0, 0, 0, 0, 0, 0, 0, 0, 0, 0] := by decide
  have hbyte : ∀ x : Byte, x = 0x8F ↔ x &&& 0xF0 = 0x80 ∧ (x &&& 0x0F).setWidth 4 = Config.bridgeMask := by decide
  rw [fits_encw_iff hb, and_right_comm, maskAt, commandMaskByte, ← hbyte, fits_iff, hmask, hfixed]
  obtain ⟨b0, b1, b2, b3, b4, b5, b6, b7, b8, b9, b10, b11, b12, b13, rfl⟩ := frame_cases hb
  simp [byteAt, List.replicate, byte_and_255]

/-! ### An encoder's frames fit its row -/

theorem fits_encodeWrite (be : Mask) (a d : Word) : Op.encw.fits (encodeWrite be a d) = true := by
  have hbyte : ∀ be : Mask, (0x80 ||| zextMask be) &&& 0xF0 = 0x80 := by decide
  exact (fits_encw_iff (encodeWrite_length ..)).mpr ⟨hbyte be, rfl⟩

theorem fits_encodeRead (be : Mask) (a : Word) : Op.encr.fits (encodeRead be a) = true := by
  have hbyte : ∀ be : Mask, zextMask be &&& 0xF0 = 0 := by decide
  exact (fits_encr_iff (encodeRead_length ..)).mpr ⟨hbyte be, rfl⟩

theorem fits_encodeResponse (u : Filler) (r : Word) (k e : Bit) (be : Mask) :
    Op.encrsp.fits (encodeResponse u r k e be) = true := by
  have hbyte : ∀ (k e : Bit) (be : Mask), packStatus k e be &&& 0x30 = 0 := by decide
  exact (fits_encrsp_iff (encodeResponse_length ..)).mpr (hbyte k e be)

theorem fits_read_encodeRead (a : Word) : Op.read.fits (encodeRead Config.bridgeMask a) = true :=
  (fits_read_iff (encodeRead_length ..)).mpr ⟨fits_encodeRead .., maskAt_encodeRead ..⟩

theorem fits_write_encodeWrite (a d : Word) : Op.write.fits (encodeWrite Config.bridgeMask a d) = true :=
  (fits_write_iff (encodeWrite_length ..)).mpr ⟨fits_encodeWrite .., maskAt_encodeWrite ..⟩

/-! ### What fits an encoder's row is the encoder's frame of the fields it carries -/

theorem encodeWrite_of_fits {b : Bytes} (h : Op.encw.fits b = true) :
    encodeWrite (maskAt b commandMaskByte) (wordAt b addressByte) (wordAt b dataByte) = b := by
  obtain ⟨hb, -⟩ := fits_iff.mp h
  obtain ⟨hbyte, hrest⟩ := (fits_encw_iff hb).mp h
  have hcommand : ∀ x : Byte, x &&& 0xF0 = 0x80 → 0x80 ||| zextMask ((x &&& 0x0F).setWidth 4) = x := by decide
  calc encodeWrite (maskAt b commandMaskByte) (wordAt b addressByte) (wordAt b dataByte)
    _ = [0x80 ||| zextMask (maskAt b 0)] ++ (le32 (wordAt b 1)).toList ++ (le32 (wordAt b 5)).toList ++
          List.replicate 5 0 := rfl
    _ = [byteAt b 0] ++ memRead b 1 4 ++ memRead b 5 4 ++ b.drop 9 := by
      rw [maskAt, hcommand _ hbyte, memRead_wordAt (by omega), memRead_wordAt (by omega), hrest]
    _ = b := by
      obtain ⟨b0, b1, b2, b3, b4, b5, b6, b7, b8, b9, b10, b11, b12, b13, rfl⟩ := frame_cases hb
      rfl

theorem encodeRead_of_fits {b : Bytes} (h : Op.encr.fits b = true) :
    encodeRead (maskAt b commandMaskByte) (wordAt b addressByte) = b := by
  obtain ⟨hb, -⟩ := fits_iff.mp h
  obtain ⟨hbyte, hrest⟩ := (fits_encr_iff hb).mp h
  have hcommand : ∀ x : Byte, x &&& 0xF0 = 0 → zextMask ((x &&& 0x0F).setWidth 4) = x := by decide
  calc encodeRead (maskAt b commandMaskByte) (wordAt b addressByte)
    _ = [zextMask (maskAt b 0)] ++ (le32 (wordAt b 1)).toList ++ List.replicate 9 0 := rfl
    _ = [byteAt b 0] ++ memRead b 1 4 ++ b.drop 5 := by
      rw [maskAt, hcommand _ hbyte, memRead_wordAt (by omega), hrest]
    _ = b := by
      obtain ⟨b0, b1, b2, b3, b4, b5, b6, b7, b8, b9, b10, b11, b12, b13, rfl⟩ := frame_cases hb
      rfl

theorem fillerBytes_fillerOf {b : Bytes} (h : 9 ≤ b.length) : fillerBytes (fillerOf b) = b.take 9 := by
  apply List.ext_getElem
  · simp [fillerBytes, h]
  · intro i hi hi'
    have hlt : i < 9 := by simpa [fillerBytes] using hi
    simp [fillerBytes, fillerOf_byte b hlt, byteAt, show i < b.length by omega]

theorem encodeResponse_of_fits {b : Bytes} (h : Op.encrsp.fits b = true) :
    encodeResponse (fillerOf b) (wordAt b readDataByte) (ackBit b) (errorBit b) (maskAt b statusByte) = b := by
  obtain ⟨hb, -⟩ := fits_iff.mp h
  have hbyte := (fits_encrsp_iff hb).mp h
  have hpack : ∀ x : Byte, x &&& 0x30 = 0 →
      packStatus ((x >>> 7).setWidth 1) ((x >>> 6).setWidth 1) ((x &&& 0x0F).setWidth 4) = x := by decide
  have hstatus : packStatus (ackBit b) (errorBit b) (maskAt b statusByte) = byteAt b 13 := hpack _ hbyte
  calc encodeResponse (fillerOf b) (wordAt b readDataByte) (ackBit b) (errorBit b) (maskAt b statusByte)
    _ = fillerBytes (fillerOf b) ++ (le32 (wordAt b 9)).toList ++
          [packStatus (ackBit b) (errorBit b) (maskAt b statusByte)] := rfl
    _ = b.take 9 ++ memRead b 9 4 ++ [byteAt b 13] := by
      rw [fillerBytes_fillerOf (by omega), memRead_wordAt (by omega), hstatus]
    _ = b := by
      obtain ⟨b0, b1, b2, b3, b4, b5, b6, b7, b8, b9, b10, b11, b12, b13, rfl⟩ := frame_cases hb
      rfl

end Sys2Proof.Machine
end

section
/-! SUPPORT. Requests (30_encoding.md R58, R59; Log 6): what they decode to, and the frames of those that transfer
(R44). -/

namespace Sys2Proof.Machine

open Sys2Proof

/-! ### An operand frame against its row -/

theorem framed_of_fits {op : Op} {b : Bytes} (h : op.fits b = true) (i : Instr) : framed op b i = .ok i := by
  have hframe : isFrame b = true := (Bool.and_eq_true_iff.mp h).1
  rw [framed, if_pos hframe, if_pos h]

theorem framed_ok {op : Op} {b : Bytes} {i j : Instr} (h : framed op b i = .ok j) : op.fits b = true ∧ j = i := by
  unfold framed at h
  split at h
  · split at h
    · cases h
      exact ⟨‹_›, rfl⟩
    · nomatch h
  · nomatch h

theorem isFrame_iff {b : Bytes} : isFrame b = true ↔ b.length = 14 := beq_iff_eq

/-! ### What a request decodes to -/

theorem decode_encode {i : Instr} (h : i.wellFormed = true) : decode (encode i) = .ok i := by
  cases i with
  | encw be a d =>
    simp only [decode, encode, Instr.op, Instr.buffer, framed_of_fits (fits_encodeWrite be a d), maskAt_encodeWrite,
      wordAt_encodeWrite_address, wordAt_encodeWrite_data]
  | encr be a =>
    simp only [decode, encode, Instr.op, Instr.buffer, framed_of_fits (fits_encodeRead be a), maskAt_encodeRead,
      wordAt_encodeRead_address]
  | encrsp u r k e be =>
    simp only [decode, encode, Instr.op, Instr.buffer, framed_of_fits (fits_encodeResponse u r k e be),
      fillerOf_encodeResponse, wordAt_encodeResponse_readData, ackBit_encodeResponse, errorBit_encodeResponse,
      maskAt_encodeResponse]
  | decrsp b | decw b | decr b | cmdkind b | newBridge t => rfl
  | xfer out => exact if_pos h
  | read a =>
    simp only [decode, encode, Instr.op, Instr.buffer, framed_of_fits (fits_read_encodeRead a),
      wordAt_encodeRead_address]
  | write a d =>
    simp only [decode, encode, Instr.op, Instr.buffer, framed_of_fits (fits_write_encodeWrite a (unle32 d)),
      wordAt_encodeWrite_address, bytes4At_encodeWrite_data]

theorem xfer_wellFormed_of_decode {b : Bytes} {t : TransportId} {i : Instr} (h : decode ⟨.xfer, b, t⟩ = .ok i) :
    i = .xfer b ∧ isFrame b = true := by
  simp only [decode] at h
  split at h
  · cases h
    exact ⟨rfl, ‹_›⟩
  · nomatch h

/-- What a request decodes to is well-formed and names the request's operation. -/
theorem decode_ok {r : Request} {i : Instr} (h : decode r = .ok i) : i.wellFormed = true ∧ i.op = r.op := by
  obtain ⟨op, b, t⟩ := r
  cases op with
  | encw | encr | encrsp | read | write =>
    obtain ⟨-, rfl⟩ := framed_ok h
    exact ⟨rfl, rfl⟩
  | decrsp | decw | decr | cmdkind | newBridge =>
    cases h
    exact ⟨rfl, rfl⟩
  | xfer =>
    obtain ⟨rfl, hframe⟩ := xfer_wellFormed_of_decode h
    exact ⟨hframe, rfl⟩

/-- The buffer of a request that decodes is the one that calls the decoded operation; `NEW` carries none. -/
theorem buffer_of_decode {r : Request} {i : Instr} (h : decode r = .ok i) (hop : r.op ≠ .newBridge) :
    i.buffer = r.buffer := by
  obtain ⟨op, b, t⟩ := r
  cases op with
  | encw =>
    obtain ⟨hfits, rfl⟩ := framed_ok h
    exact encodeWrite_of_fits hfits
  | encr =>
    obtain ⟨hfits, rfl⟩ := framed_ok h
    exact encodeRead_of_fits hfits
  | encrsp =>
    obtain ⟨hfits, rfl⟩ := framed_ok h
    exact encodeResponse_of_fits hfits
  | read =>
    obtain ⟨hfits, rfl⟩ := framed_ok h
    obtain ⟨hencr, hmask⟩ := (fits_read_iff (fits_iff.mp hfits).1).mp hfits
    have hframe := encodeRead_of_fits hencr
    rwa [hmask] at hframe
  | write =>
    obtain ⟨hfits, rfl⟩ := framed_ok h
    obtain ⟨hencw, hmask⟩ := (fits_write_iff (fits_iff.mp hfits).1).mp hfits
    have hframe := encodeWrite_of_fits hencw
    rwa [hmask] at hframe
  | xfer =>
    obtain ⟨rfl, -⟩ := xfer_wellFormed_of_decode h
    rfl
  | decrsp | decw | decr | cmdkind => cases h; rfl
  | newBridge => exact absurd rfl hop

theorem transport_of_decode {r : Request} {i : Instr} (h : decode r = .ok i) (hop : r.op = .newBridge) :
    i.transportOperand = r.transport := by
  obtain ⟨op, b, t⟩ := r
  cases hop
  cases h
  rfl

/-! ### The frames handed to a transport (R44) -/

/-- A well-formed operation that transfers hands over 14 bytes. -/
theorem buffer_length_of_transfers {i : Instr} (h : i.wellFormed = true) (hop : i.op.transfers = true) :
    i.buffer.length = 14 := by
  cases i with
  | xfer out => exact isFrame_iff.mp h
  | read a => rfl
  | write a d => rfl
  | _ => nomatch hop

theorem State.framesWhole_append {s t : State} {l : List (TransportId × Bytes)} (ht : t.sent = s.sent ++ l)
    (hs : s.framesWhole) (hl : ∀ e ∈ l, e.2.length = 14) : t.framesWhole := by
  intro e he
  rw [ht] at he
  exact (List.mem_append.mp he).elim (hs e) (hl e)

theorem exec_framesWhole {i : Instr} {s t : State} (h : exec i s = .next t) (hi : i.wellFormed = true)
    (hs : s.framesWhole) : t.framesWhole := by
  refine State.framesWhole_append (exec_sent h) hs fun e he => ?_
  split at he
  · obtain rfl := List.mem_singleton.mp he
    exact buffer_length_of_transfers hi ‹_›
  · exact absurd he List.not_mem_nil

theorem State.continueCall_framesWhole {s : State} (hs : s.framesWhole) : s.continueCall.framesWhole := by
  obtain h | ⟨c, -, h⟩ := s.continueCall_sent
  · exact fun e he => hs e (h ▸ he)
  · refine State.framesWhole_append h hs fun e he => ?_
    obtain rfl := List.mem_singleton.mp he
    exact c.command_length

end Sys2Proof.Machine
end

section
/-! PROOFS. The obligations of the family of 30_encoding.md. -/

namespace Sys2Proof.Proofs

open Sys2Proof Sys2Proof.Machine

/-- Settles O21: the buffer of an operation fits its row, and the fields it was built from are read back. -/
theorem decodeOfEncodeIsTheOperation : Obligations.DecodeOfEncodeIsTheOperation :=
  fun _ => decode_encode

/-- Settles O9: on encode from the four bytes `le32` of the value at the field's place, on decode from the value of
`unle32`. -/
theorem wordFieldPlacement : Obligations.WordFieldPlacement := by
  refine ⟨fun be a d u r k e => ⟨fun i hi => ?_, fun j hj => ?_⟩, fun b w h => ?_, fun b c h => ?_, fun b r h => ?_⟩
  · exact ⟨byteAt_of_memRead (memRead_encodeWrite_address be a d) hi,
      byteAt_of_memRead (memRead_encodeRead_address be a) hi, byteAt_of_memRead (memRead_encodeWrite_data be a d) hi,
      byteAt_of_memRead (memRead_encodeResponse_readData u r k e be) hi⟩
  · exact ⟨fbit_of_memRead (memRead_encodeWrite_address be a d) hj,
      fbit_of_memRead (memRead_encodeRead_address be a) hj, fbit_of_memRead (memRead_encodeWrite_data be a d) hj,
      fbit_of_memRead (memRead_encodeResponse_readData u r k e be) hj⟩
  · obtain rfl := eq_of_onFrame_ok h
    exact ⟨wordAt_toNat b addressByte, wordAt_toNat b dataByte⟩
  · obtain rfl := eq_of_onFrame_ok h
    exact wordAt_toNat b addressByte
  · obtain rfl := eq_of_onFrame_ok h
    exact wordAt_toNat b readDataByte

/-- Settles O10: the mask is the low nibble of its byte, in which an encoder places it and a decoder reads it. -/
theorem maskPlacement : Obligations.MaskPlacement := by
  refine fun i hi => ⟨fun be a d u r k e => ?_, fun b w h => ?_, fun b c h => ?_, fun b r h => ?_⟩
  · rw [← maskAt_command_bit _ hi, ← maskAt_command_bit _ hi, ← maskAt_response_bit _ hi, maskAt_encodeWrite,
      maskAt_encodeRead, maskAt_encodeResponse]
    exact ⟨rfl, rfl, rfl⟩
  · obtain rfl := eq_of_onFrame_ok h
    exact maskAt_command_bit b hi
  · obtain rfl := eq_of_onFrame_ok h
    exact maskAt_command_bit b hi
  · obtain rfl := eq_of_onFrame_ok h
    exact maskAt_response_bit b hi

/-- Settles O11: the filler's bytes stand first, and `DECRSP` returns the four other operands. -/
theorem fillerPlacement : Obligations.FillerPlacement := by
  refine fun u u' r k e be => ⟨fun i hi => byteAt_encodeResponse_filler u r k e be hi,
    fun j hj => fbit_encodeResponse_filler u r k e be hj, fun s => ?_⟩
  rw [exec_decrsp, exec_decrsp, decodeResponse_encodeResponse, decodeResponse_encodeResponse]

/-- Settles O16: the encoders leave reserved bits 0, and the fields a decoder reads are determined by their own
bits. -/
theorem reservedBitsZeroOnEncodeIgnoredOnDecode : Obligations.ReservedBitsZeroOnEncodeIgnoredOnDecode := by
  refine ⟨fun be a d k => fbit_encodeWrite_reserved be a d, fun be a k => fbit_encodeRead_reserved be a,
    fun u r ack error be k => fbit_encodeResponse_reserved u r ack error be, fun b b' s hb hb' => ?_,
    fun b s hb => ?_⟩
  · have hlen := hb.trans hb'.symm
    rw [exec_decw, exec_decw, exec_decr, exec_decr, exec_decrsp, exec_decrsp, exec_cmdkind, exec_cmdkind]
    refine ⟨fun h => ?_, fun h => ?_, fun h => ?_, fun h => ?_⟩
    · rw [decodeWrite_congr hlen h]
    · rw [decodeRead_congr hlen h]
    · rw [decodeResponse_congr hlen h]
    · rw [commandKind_congr hlen h]
  · exact ⟨⟨_, congrArg _ (State.conclude_onFrame hb ..)⟩, ⟨_, congrArg _ (State.conclude_onFrame hb ..)⟩,
      ⟨_, congrArg _ (State.conclude_onFrame hb ..)⟩⟩

/-- Settles O17: the decoders undo the encoders, and a call hands over its command, which carries `1111`. -/
theorem everyMaskIsLegal : Obligations.EveryMaskIsLegal := by
  refine ⟨fun be a d u r k e => ⟨?_, ?_, ?_⟩, fun c s t h => ?_⟩
  · exact ⟨_, decodeWrite_encodeWrite be a d, rfl⟩
  · exact ⟨_, decodeRead_encodeRead be a, rfl⟩
  · exact ⟨_, decodeResponse_encodeResponse u r k e be, rfl⟩
  · have hsent := exec_sent h
    rw [c.instr_op, if_pos c.op_transfers, c.instr_buffer] at hsent
    exact ⟨c.command, _, hsent, onFrame_ok c.command_length _, maskAt_command c⟩

/-- Settles O18: an encoder's frames fit its row, and a buffer that fits is the encoder's frame of the fields it
carries. -/
theorem canonicalFramesAreTheEncoderRanges : Obligations.CanonicalFramesAreTheEncoderRanges := by
  refine fun f => ⟨⟨fun h => ?_, ?_⟩, ⟨fun h => ?_, ?_⟩, ⟨fun h => ?_, ?_⟩⟩
  · exact ⟨_, _, _, (encodeWrite_of_fits h).symm⟩
  · rintro ⟨be, a, d, rfl⟩
    exact fits_encodeWrite be a d
  · exact ⟨_, _, (encodeRead_of_fits h).symm⟩
  · rintro ⟨be, a, rfl⟩
    exact fits_encodeRead be a
  · exact ⟨_, _, _, _, _, (encodeResponse_of_fits h).symm⟩
  · rintro ⟨u, r, k, e, be, rfl⟩
    exact fits_encodeResponse u r k e be

/-- Settles O22: a buffer that decodes fits its row, and so is the frame of the operands read from it. -/
theorem decodeDropsNoBit : Obligations.DecodeDropsNoBit := by
  intro r i h
  obtain ⟨hwf, hop⟩ := decode_ok h
  exact ⟨hwf, hop, buffer_of_decode h, transport_of_decode h⟩

/-- Settles O47: an operation that decodes is well-formed, so what it hands over is a frame, as is the command of a
call that goes on. -/
theorem stepKeepsFramesWhole : Obligations.StepKeepsFramesWhole := by
  intro s t hs h
  obtain ⟨-, -, rfl⟩ | ⟨r, rest, i, -, -, hd, hx⟩ | ⟨-, rfl⟩ := step_next_cases h
  · exact hs
  · exact exec_framesWhole hx (decode_ok hd).1 hs
  · exact State.continueCall_framesWhole hs

/-- Settles O23: each request evaluated, the read command with a reserved bit set to its refusal (Log 6). -/
theorem wordsDecodeAsWrittenOut : Obligations.WordsDecodeAsWrittenOut :=
  ⟨rfl, rfl, rfl, rfl⟩

end Sys2Proof.Proofs
end

section
/-! SUPPORT. The encode family as operations, and the laws of the encoders (40_encode_ops.md R64): the codec operations
on an encoder's frame, the write marker, and that the operands are determined by the frame. -/

namespace Sys2Proof.Machine

open Sys2Proof

/-! ### The encode family as operations -/

theorem exec_encw (be : Mask) (a d : Word) (s : State) :
    exec (.encw be a d) s = .next (s.deliver .encw (.frame (encodeWrite be a d))) := rfl

theorem exec_encr (be : Mask) (a : Word) (s : State) :
    exec (.encr be a) s = .next (s.deliver .encr (.frame (encodeRead be a))) := rfl

theorem exec_encrsp (u : Filler) (r : Word) (k e : Bit) (be : Mask) (s : State) :
    exec (.encrsp u r k e be) s = .next (s.deliver .encrsp (.frame (encodeResponse u r k e be))) := rfl

/-! ### The write marker of a command (R64 b) -/

theorem markerBit_encodeRead (be : Mask) (a : Word) : markerBit (encodeRead be a) = 0 :=
  fbit_encodeRead_reserved be a (k := 0) (.inl (by decide))

theorem commandKind_encodeWrite (be : Mask) (a d : Word) : commandKind (encodeWrite be a d) = .ok .write := by
  rw [commandKind, onFrame_ok (encodeWrite_length ..), markerBit_encodeWrite, if_pos rfl]

theorem commandKind_encodeRead (be : Mask) (a : Word) : commandKind (encodeRead be a) = .ok .read := by
  rw [commandKind, onFrame_ok (encodeRead_length ..), markerBit_encodeRead, if_neg (by decide)]

/-! ### The decode family on an encoder's frame (R64 c, R69) -/

theorem State.conclude_ok {α : Type} {v : Except Failure α} {x : α} (h : v = .ok x) (op : Op) (wrap : α → Result)
    (s : State) : s.conclude op wrap v = s.deliver op (wrap x) := by
  rw [h]
  rfl

theorem exec_decw_encodeWrite (be : Mask) (a d : Word) (s : State) :
    exec (.decw (encodeWrite be a d)) s = .next (s.deliver .decw (.writeCommand ⟨1, be, a, d⟩)) := by
  rw [exec_decw, State.conclude_ok (decodeWrite_encodeWrite ..)]

theorem exec_decr_encodeRead (be : Mask) (a : Word) (s : State) :
    exec (.decr (encodeRead be a)) s = .next (s.deliver .decr (.readCommand ⟨be, a⟩)) := by
  rw [exec_decr, State.conclude_ok (decodeRead_encodeRead ..)]

theorem exec_decrsp_encodeResponse (u : Filler) (r : Word) (k e : Bit) (be : Mask) (s : State) :
    exec (.decrsp (encodeResponse u r k e be)) s = .next (s.deliver .decrsp (.response ⟨r, k, e, be⟩)) := by
  rw [exec_decrsp, State.conclude_ok (decodeResponse_encodeResponse ..)]

theorem exec_cmdkind_encodeWrite (be : Mask) (a d : Word) (s : State) :
    exec (.cmdkind (encodeWrite be a d)) s = .next (s.deliver .cmdkind (.kind .write)) := by
  rw [exec_cmdkind, State.conclude_ok (commandKind_encodeWrite ..)]

theorem exec_cmdkind_encodeRead (be : Mask) (a : Word) (s : State) :
    exec (.cmdkind (encodeRead be a)) s = .next (s.deliver .cmdkind (.kind .read)) := by
  rw [exec_cmdkind, State.conclude_ok (commandKind_encodeRead ..)]

/-! ### The frame determines the operands (R64 a) -/

theorem encodeWrite_injective {be be' : Mask} {a a' d d' : Word} (h : encodeWrite be a d = encodeWrite be' a' d') :
    be = be' ∧ a = a' ∧ d = d' := by
  have hdecoded := congrArg decodeWrite h
  rw [decodeWrite_encodeWrite, decodeWrite_encodeWrite] at hdecoded
  cases hdecoded
  exact ⟨rfl, rfl, rfl⟩

theorem encodeRead_injective {be be' : Mask} {a a' : Word} (h : encodeRead be a = encodeRead be' a') :
    be = be' ∧ a = a' := by
  have hdecoded := congrArg decodeRead h
  rw [decodeRead_encodeRead, decodeRead_encodeRead] at hdecoded
  cases hdecoded
  exact ⟨rfl, rfl⟩

/-- No decoder reads the filler, so it is recovered from the frame by itself (R51). -/
theorem encodeResponse_injective {u u' : Filler} {r r' : Word} {k k' e e' : Bit} {be be' : Mask}
    (h : encodeResponse u r k e be = encodeResponse u' r' k' e' be') :
    u = u' ∧ r = r' ∧ k = k' ∧ e = e' ∧ be = be' := by
  have hfiller := congrArg fillerOf h
  have hdecoded := congrArg decodeResponse h
  rw [fillerOf_encodeResponse, fillerOf_encodeResponse] at hfiller
  rw [decodeResponse_encodeResponse, decodeResponse_encodeResponse] at hdecoded
  cases hdecoded
  exact ⟨hfiller, rfl, rfl, rfl, rfl⟩

end Sys2Proof.Machine
end

section
/-! PROOFS. The obligations of the family of 40_encode_ops.md. -/

namespace Sys2Proof.Proofs

open Sys2Proof Sys2Proof.Machine

/-- Settles O7: the decoders undo the encoders, and `CMDKIND` reads the marker an encoder placed. -/
theorem decodersUndoEncoders : Obligations.DecodersUndoEncoders := by
  refine ⟨fun be a d s s' => ⟨encodeWrite be a d, ?_, ?_, ?_⟩, fun be a s s' => ⟨encodeRead be a, ?_, ?_, ?_⟩,
    fun u r k e be s s' => ⟨encodeResponse u r k e be, ?_, ?_⟩⟩
  · exact exec_encw be a d s
  · exact exec_decw_encodeWrite be a d s'
  · exact exec_cmdkind_encodeWrite be a d s'
  · exact exec_encr be a s
  · exact exec_decr_encodeRead be a s'
  · exact exec_cmdkind_encodeRead be a s'
  · exact exec_encrsp u r k e be s
  · exact exec_decrsp_encodeResponse u r k e be s'

/-- Settles O5: the frame is named by the operands alone, its reserved bits are 0, and Build hands a call's command
over. -/
theorem encodersTotalPureCanonical : Obligations.EncodersTotalPureCanonical := by
  refine ⟨fun be a d => ?_, fun be a => ?_, fun u r k e be => ?_, fun c s h => ?_⟩
  · exact ⟨encodeWrite be a d, exec_encw be a d, encodeWrite_length .., fun _ => fbit_encodeWrite_reserved be a d⟩
  · exact ⟨encodeRead be a, exec_encr be a, encodeRead_length .., fun _ => fbit_encodeRead_reserved be a⟩
  · exact ⟨encodeResponse u r k e be, exec_encrsp u r k e be, encodeResponse_length ..,
      fbit_encodeResponse_reserved u r k e be (.inl rfl), fbit_encodeResponse_reserved u r k e be (.inr rfl)⟩
  · rw [State.advance_of_build h, State.buildStep_of h]
    rfl

/-- Settles O6: the operands are read back from the frame, and frame bit 0 is the write marker. -/
theorem encodersInjectiveAndDisjoint : Obligations.EncodersInjectiveAndDisjoint :=
  ⟨fun _ _ _ _ _ _ => encodeWrite_injective, fun _ _ _ _ => encodeRead_injective,
    fun _ _ _ _ _ _ _ _ _ _ => encodeResponse_injective, markerBit_encodeWrite, markerBit_encodeRead⟩

/-- Settles O2: what `ENCW` delivers, its frame written out byte by byte. -/
theorem encwGivesTheWriteFrame : Obligations.EncwGivesTheWriteFrame := by
  intro be a d s
  rw [exec_encw, encodeWrite_bytes]
  rfl

/-- Settles O3: what `ENCR` delivers, its frame written out byte by byte. -/
theorem encrGivesTheReadFrame : Obligations.EncrGivesTheReadFrame := by
  intro be a s
  rw [exec_encr, encodeRead_bytes]
  rfl

/-- Settles O4: what `ENCRSP` delivers, its frame written out byte by byte (the spec's decisions D5, D6). -/
theorem encrspGivesTheResponseFrame : Obligations.EncrspGivesTheResponseFrame := by
  intro u r k e be s
  rw [exec_encrsp, encodeResponse_bytes]
  rfl

end Sys2Proof.Proofs
end

/-! ## Proofs: the family of 41_decode_ops.md -/

section
/-! SUPPORT. The decode family by the length of the buffer (41_decode_ops.md R65), and which buffers the encoders give
back (R70 d). -/

namespace Sys2Proof.Machine

open Sys2Proof

/-! ### What a decoder delivers, by the length of its buffer -/

/-- Of any other length than 14 a decoder delivers `FrameError`, whatever its fields would be (R65). -/
theorem State.conclude_onFrame_of_ne {α : Type} {b : Bytes} (h : b.length ≠ 14) (op : Op) (wrap : α → Result) (x : α)
    (s : State) : s.conclude op wrap (onFrame b x) = s.deliver op (.failed .frameError) := by
  rw [onFrame_error h]
  rfl

theorem exec_decrsp_frame {b : Bytes} (h : b.length = 14) (s : State) :
    exec (.decrsp b) s = .next (s.deliver .decrsp
      (.response ⟨wordAt b readDataByte, ackBit b, errorBit b, maskAt b statusByte⟩)) := by
  rw [exec_decrsp, decodeResponse, State.conclude_onFrame h]

theorem exec_decw_frame {b : Bytes} (h : b.length = 14) (s : State) :
    exec (.decw b) s = .next (s.deliver .decw
      (.writeCommand ⟨markerBit b, maskAt b commandMaskByte, wordAt b addressByte, wordAt b dataByte⟩)) := by
  rw [exec_decw, decodeWrite, State.conclude_onFrame h]

theorem exec_decr_frame {b : Bytes} (h : b.length = 14) (s : State) :
    exec (.decr b) s = .next (s.deliver .decr
      (.readCommand ⟨maskAt b commandMaskByte, wordAt b addressByte⟩)) := by
  rw [exec_decr, decodeRead, State.conclude_onFrame h]

theorem exec_cmdkind_frame {b : Bytes} (h : b.length = 14) (s : State) :
    exec (.cmdkind b) s = .next (s.deliver .cmdkind (.kind (if markerBit b = 1 then .write else .read))) := by
  rw [exec_cmdkind, commandKind, State.conclude_onFrame h]

theorem exec_decrsp_of_ne {b : Bytes} (h : b.length ≠ 14) (s : State) :
    exec (.decrsp b) s = .next (s.deliver .decrsp (.failed .frameError)) := by
  rw [exec_decrsp, decodeResponse, State.conclude_onFrame_of_ne h]

theorem exec_decw_of_ne {b : Bytes} (h : b.length ≠ 14) (s : State) :
    exec (.decw b) s = .next (s.deliver .decw (.failed .frameError)) := by
  rw [exec_decw, decodeWrite, State.conclude_onFrame_of_ne h]

theorem exec_decr_of_ne {b : Bytes} (h : b.length ≠ 14) (s : State) :
    exec (.decr b) s = .next (s.deliver .decr (.failed .frameError)) := by
  rw [exec_decr, decodeRead, State.conclude_onFrame_of_ne h]

theorem exec_cmdkind_of_ne {b : Bytes} (h : b.length ≠ 14) (s : State) :
    exec (.cmdkind b) s = .next (s.deliver .cmdkind (.failed .frameError)) := by
  rw [exec_cmdkind, commandKind, State.conclude_onFrame_of_ne h]

/-! ### Encoding the fields of a buffer gives it back exactly where it fits the encoder's row (R53, R70 d) -/

theorem encodeWrite_fields_eq_iff (b : Bytes) :
    encodeWrite (maskAt b commandMaskByte) (wordAt b addressByte) (wordAt b dataByte) = b ↔ Op.encw.fits b = true := by
  refine ⟨fun h => ?_, encodeWrite_of_fits⟩
  rw [← h]
  exact fits_encodeWrite ..

theorem encodeRead_fields_eq_iff (b : Bytes) :
    encodeRead (maskAt b commandMaskByte) (wordAt b addressByte) = b ↔ Op.encr.fits b = true := by
  refine ⟨fun h => ?_, encodeRead_of_fits⟩
  rw [← h]
  exact fits_encodeRead ..

theorem encodeResponse_fields_eq_iff (b : Bytes) :
    encodeResponse (fillerOf b) (wordAt b readDataByte) (ackBit b) (errorBit b) (maskAt b statusByte) = b ↔
      Op.encrsp.fits b = true := by
  refine ⟨fun h => ?_, encodeResponse_of_fits⟩
  rw [← h]
  exact fits_encodeResponse ..

end Sys2Proof.Machine
end

section
/-! PROOFS. The obligations of the family of 41_decode_ops.md. -/

namespace Sys2Proof.Proofs

open Sys2Proof Sys2Proof.Machine

/-- Settles O13: each decoder is the length check and nothing else that can fail (for `DECW`, `DECR` and `CMDKIND` the
spec's decision D5). -/
theorem decodersCheckTheLengthAlone : Obligations.DecodersCheckTheLengthAlone := by
  refine fun b s => ⟨fun h => ?_, fun h => ?_⟩
  · exact ⟨exec_decrsp_of_ne h s, exec_decw_of_ne h s, exec_decr_of_ne h s, exec_cmdkind_of_ne h s⟩
  · exact ⟨⟨_, exec_decrsp_frame h s⟩, ⟨_, exec_decw_frame h s⟩, ⟨_, exec_decr_frame h s⟩,
      ⟨_, exec_cmdkind_frame h s⟩⟩

/-- Settles O19: a buffer comes back exactly where it fits the row of its format, and that is the row's condition on
marker and reserved bits. -/
theorem reencodingRecoversCanonicalBuffersOnly : Obligations.ReencodingRecoversCanonicalBuffersOnly := by
  refine fun b hb => ⟨⟨_, onFrame_ok hb _, ?_⟩, ⟨_, onFrame_ok hb _, ?_⟩, ⟨_, onFrame_ok hb _, ?_⟩⟩
  · exact (encodeWrite_fields_eq_iff b).trans (fits_encw_iff hb)
  · exact (encodeRead_fields_eq_iff b).trans (fits_encr_iff hb)
  · exact (encodeResponse_fields_eq_iff b).trans (fits_encrsp_iff hb)

/-- Settles O14: the fields of 14 bytes written out, and the length check. -/
theorem decrspReadsTheResponse : Obligations.DecrspReadsTheResponse := by
  refine ⟨fun b0 b1 b2 b3 b4 b5 b6 b7 b8 b9 b10 b11 b12 b13 s => ?_, fun b s h => exec_decrsp_of_ne h s⟩
  exact exec_decrsp_frame rfl s

/-- Settles O15: the fields of 14 bytes written out (the spec's decision D5). -/
theorem commandDecodersReadTheCommand : Obligations.CommandDecodersReadTheCommand := by
  intro b0 b1 b2 b3 b4 b5 b6 b7 b8 b9 b10 b11 b12 b13 s
  exact ⟨exec_decw_frame rfl s, exec_decr_frame rfl s, exec_cmdkind_frame rfl s⟩

end Sys2Proof.Proofs
end

/-! ## Proofs: the family of 42_bridge_ops.md -/

section
/-! SUPPORT. What step 4 makes of a record and what steps 3 to 5 make of a response buffer, case by case
(42_bridge_ops.md R74, R78), and that this is the outcome Safety.lean writes from the rules. -/

namespace Sys2Proof.Machine

open Sys2Proof

/-! ### Step 4 (R74) -/

theorem validate_missingAck {rsp : Response} (hack : rsp.ack = 0) : validate rsp = .error .missingAck := if_pos hack

theorem validate_payloadError {rsp : Response} (hack : rsp.ack = 1) (herror : rsp.error = 1) :
    validate rsp = .error .payloadError := by
  simp [validate, hack, herror]

theorem validate_ok {rsp : Response} (hack : rsp.ack = 1) (herror : rsp.error = 0) : validate rsp = .ok () := by
  simp [validate, hack, herror]

/-! ### A call in phase Validate -/

theorem State.continueCall_of_validate {s : State} {c : Call} {rsp : Response} (h : s.phase = .validate c rsp) :
    s.continueCall = s.validateStep.returnStep := by
  rw [State.continueCall, State.buildStep_of_ne (by simp [h]), State.transferStep_of_ne (by simp [h]),
    State.decodeStep_of_ne (by simp [h])]

theorem State.continueCall_of_validate_error {s : State} {c : Call} {rsp : Response} {f : Failure}
    (h : s.phase = .validate c rsp) (hv : validate rsp = .error f) :
    s.continueCall = s.endCall c.op (.failed f) := by
  rw [State.continueCall_of_validate h, State.validateStep_error h hv]
  rfl

theorem State.continueCall_of_validate_ok {s : State} {c : Call} {rsp : Response} (h : s.phase = .validate c rsp)
    (hv : validate rsp = .ok ()) : s.continueCall = s.endCall c.op (c.success rsp) := by
  rw [State.continueCall_of_validate h, State.validateStep_ok h hv]
  rfl

/-! ### The outcome of a response buffer -/

/-- The record step 3 makes of 14 bytes (R66). -/
def responseAt (b : Bytes) : Response := ⟨wordAt b readDataByte, ackBit b, errorBit b, maskAt b statusByte⟩

theorem decodeResponse_frame {b : Bytes} (h : b.length = 14) : decodeResponse b = .ok (responseAt b) :=
  onFrame_ok h _

theorem Call.outcome_of_length_ne {b : Bytes} (h : b.length ≠ 14) (c : Call) : c.outcome b = .failed .frameError := by
  rw [Call.outcome, decodeResponse, onFrame_error h]

theorem Call.outcome_of_validate_error {b : Bytes} {f : Failure} (h : b.length = 14)
    (hv : validate (responseAt b) = .error f) (c : Call) : c.outcome b = .failed f := by
  simp only [Call.outcome, decodeResponse_frame h, hv]

theorem Call.outcome_of_validate_ok {b : Bytes} (h : b.length = 14) (hv : validate (responseAt b) = .ok ())
    (c : Call) : c.outcome b = c.success (responseAt b) := by
  simp only [Call.outcome, decodeResponse_frame h, hv]

theorem Call.outcome_of_missingAck {b : Bytes} (h : b.length = 14) (hack : fbit b 104 = 0) (c : Call) :
    c.outcome b = .failed .missingAck :=
  c.outcome_of_validate_error h (validate_missingAck hack)

theorem Call.outcome_of_payloadError {b : Bytes} (h : b.length = 14) (hack : fbit b 104 = 1)
    (herror : fbit b 105 = 1) (c : Call) : c.outcome b = .failed .payloadError :=
  c.outcome_of_validate_error h (validate_payloadError hack herror)

theorem Call.outcome_of_success {b : Bytes} (h : b.length = 14) (hack : fbit b 104 = 1) (herror : fbit b 105 = 0)
    (c : Call) : c.outcome b = c.success (responseAt b) :=
  c.outcome_of_validate_ok h (validate_ok hack herror)

/-- A successful `READ` returns frame bytes 9 to 12 in frame order (R77, the spec's decision D8). -/
theorem Call.success_read (a : Word) (b : Bytes) :
    (Call.read a).success (responseAt b) = .bytes4 ⟨byteAt b 9, byteAt b 10, byteAt b 11, byteAt b 12⟩ :=
  congrArg Result.bytes4 (le32_unle32 (bytes4At b readDataByte))

/-- The machine's steps 3 to 5 give the outcome the rules give (R73 to R76, R86). -/
theorem expectedResult_bytes (c : Call) (b : Bytes) : expectedResult c (.bytes b) = some (c.outcome b) := by
  by_cases hb : b.length = 14
  case neg => simp [expectedResult, c.outcome_of_length_ne hb, hb]
  obtain hack | hack := (fbit b 104).eq_zero_or_eq_one
  · simp [expectedResult, c.outcome_of_missingAck hb hack, hb, hack]
  obtain herror | herror := (fbit b 105).eq_zero_or_eq_one
  · rw [c.outcome_of_success hb hack herror]
    cases c with
    | read a => simp [expectedResult, Call.success_read, hb, hack, herror]
    | write a d => simp [expectedResult, Call.success, hb, hack, herror]
  · simp [expectedResult, c.outcome_of_payloadError hb hack herror, hb, hack, herror]

/-! ### The response bits an outcome depends on (R78) -/

theorem expectedResult_write_congr {b b' : Bytes} (hlen : b.length = b'.length) (hack : fbit b 104 = fbit b' 104)
    (herror : fbit b 105 = fbit b' 105) (a : Word) (d : Bytes4) :
    expectedResult (.write a d) (.bytes b) = expectedResult (.write a d) (.bytes b') := by
  simp only [expectedResult, hlen, hack, herror]

theorem expectedResult_read_congr {b b' : Bytes} (hlen : b.length = b'.length)
    (h : ∀ k, 72 ≤ k ∧ k ≤ 105 → fbit b k = fbit b' k) (a : Word) :
    expectedResult (.read a) (.bytes b) = expectedResult (.read a) (.bytes b') := by
  have hbyte : ∀ q, 9 ≤ q → q ≤ 12 → byteAt b q = byteAt b' q := fun q hq hq' =>
    byteAt_congr fun k hk hk' => h k (by omega)
  simp only [expectedResult, hlen, h 104 (by decide), h 105 (by decide), hbyte 9 (by decide) (by decide),
    hbyte 10 (by decide) (by decide), hbyte 11 (by decide) (by decide), hbyte 12 (by decide) (by decide)]

end Sys2Proof.Machine
end

section
/-! SUPPORT. A call, and an `XFER` of its own, settled by one answer (42_bridge_ops.md R72, R73, R98): from phase
Transfer, and from Idle by handing the frame over first. -/

namespace Sys2Proof.Machine

open Sys2Proof

/-! ### From phase Transfer -/

theorem State.continueCall_of_transfer {s : State} {call : Option Call} {out : Bytes}
    (h : s.phase = .transfer call out) : s.continueCall = (s.drawn.takeAnswer call s.nextAnswer).finish := by
  rw [State.continueCall, State.buildStep_of_ne (by simp [h]), State.transferStep_of h, State.finish]

/-- A transfer without an answer waits on where it is: the draw is all that happens (R98). -/
theorem State.continueCall_of_pending {s : State} {call : Option Call} {out : Bytes}
    (h : s.phase = .transfer call out) (ha : s.nextAnswer = .pending) (op : Op) :
    s.continueCall = s.settled op (.transfer call out) none := by
  have hwait : s.drawn.finish = s.drawn := State.finish_of_transfer (s := s.drawn) h
  rw [State.continueCall_of_transfer h, ha, State.settled, ← h]
  exact hwait

theorem State.continueCall_of_call {s : State} {c : Call} {out : Bytes} (h : s.phase = .transfer (some c) out) :
    s.continueCall = s.settled c.op (.transfer (some c) out) (expectedResult c s.nextAnswer) := by
  cases ha : s.nextAnswer with
  | pending => exact State.continueCall_of_pending h ha c.op
  | fail =>
    rw [State.continueCall_of_transfer h, ha]
    rfl
  | bytes b =>
    have hdecode : (s.drawn.takeAnswer (some c) (.bytes b)).phase = .decode c b := rfl
    rw [State.continueCall_of_transfer h, ha, State.finish_of_decode hdecode, expectedResult_bytes]
    rfl

theorem State.continueCall_of_xfer {s : State} {out : Bytes} (h : s.phase = .transfer none out) :
    s.continueCall = s.settled .xfer (.transfer none out) (expectedTransfer s.nextAnswer) := by
  cases ha : s.nextAnswer with
  | pending => exact State.continueCall_of_pending h ha .xfer
  | fail | bytes b =>
    rw [State.continueCall_of_transfer h, ha]
    rfl

/-! ### From phase Idle -/

/-- The phase a transfer is settled from does not enter the state it leaves. -/
theorem State.settled_setPhase (op : Op) (waiting : Phase) (r : Option Result) (p : Phase) (s : State) :
    (s.setPhase p).settled op waiting r = s.settled op waiting r := by
  cases r <;> rfl

/-- Nor does the first scripted answer: the draw drops it. -/
theorem State.settled_setAnswers (op : Op) (waiting : Phase) (r : Option Result) (x x' : Answer)
    (rest : List Answer) (s : State) :
    (s.setAnswers (x :: rest)).settled op waiting r = (s.setAnswers (x' :: rest)).settled op waiting r := by
  cases r <;> rfl

/-- A call from Idle: its command handed over, and settled by the answer (R73). -/
theorem exec_call_settled (c : Call) {s : State} (h : s.phase = .idle) :
    exec c.instr s = .next ((s.handOver c.command).settled c.op (.transfer (some c) c.command)
      (expectedResult c (s.answerTo c.command))) := by
  have htransfer : ((s.setPhase (.build c)).beginTransfer (some c) c.command).phase =
      .transfer (some c) c.command := rfl
  rw [exec_call_of_idle c h, State.continueCall_eq_beginTransfer (c := c) rfl, State.continueCall_of_call htransfer]
  exact congrArg _ (State.settled_setPhase ..)

theorem exec_call_of_busy (c : Call) {s : State} (h : s.phase ≠ .idle) :
    exec c.instr s = .refused .callInProgress := by
  rw [exec_call, startCall, if_neg h]

theorem exec_xfer_of_idle (out : Bytes) {s : State} (h : s.phase = .idle) :
    exec (.xfer out) s = .next (s.beginTransfer none out).continueCall :=
  if_pos h

/-- An `XFER` of its own from Idle: its frame handed over as it is, and settled by the answer (R72, Log 10). -/
theorem exec_xfer_settled (out : Bytes) {s : State} (h : s.phase = .idle) :
    exec (.xfer out) s = .next ((s.handOver out).settled .xfer (.transfer none out)
      (expectedTransfer (s.answerTo out))) := by
  have htransfer : (s.beginTransfer none out).phase = .transfer none out := rfl
  rw [exec_xfer_of_idle out h, State.continueCall_of_xfer htransfer]
  exact congrArg _ (State.settled_setPhase ..)

/-- Two scripted answers with one outcome lead to one state, whatever the phase. -/
theorem exec_call_congr_answer {c : Call} {x x' : Answer} (h : expectedResult c x = expectedResult c x')
    (rest : List Answer) (s : State) :
    exec c.instr (s.setAnswers (x :: rest)) = exec c.instr (s.setAnswers (x' :: rest)) := by
  by_cases hs : s.phase = .idle
  case neg =>
    rw [exec_call_of_busy (s := s.setAnswers (x :: rest)) c hs,
      exec_call_of_busy (s := s.setAnswers (x' :: rest)) c hs]
  have hx : ∀ y, (s.setAnswers (y :: rest)).answerTo c.command = y := fun _ => State.answerTo_scripted rfl _
  rw [exec_call_settled (s := s.setAnswers (x :: rest)) c hs,
    exec_call_settled (s := s.setAnswers (x' :: rest)) c hs, hx, hx, h]
  exact congrArg _ (State.settled_setAnswers _ _ _ x x' rest (s.handOver c.command))

/-! ### The commands written out (R75, R76) -/

theorem Call.command_read (a : Word) :
    (Call.read a).command =
      [0x0F, a.extractLsb' 0 8, a.extractLsb' 8 8, a.extractLsb' 16 8, a.extractLsb' 24 8,
        0, 0, 0, 0, 0, 0, 0, 0, 0] := rfl

/-- The four bytes given stand in the frame in their order (R77, the spec's decision D8). -/
theorem Call.command_write (a : Word) (d : Bytes4) :
    (Call.write a d).command =
      [0x8F, a.extractLsb' 0 8, a.extractLsb' 8 8, a.extractLsb' 16 8, a.extractLsb' 24 8,
        d.b0, d.b1, d.b2, d.b3, 0, 0, 0, 0, 0] := by
  rw [Call.command, encodeWrite_bytes, le32_unle32]
  rfl

/-! ### Ending from phase Idle -/

theorem State.endCall_of_idle {s : State} (h : s.phase = .idle) (op : Op) (r : Result) :
    s.endCall op r = s.deliver op r := by
  rw [State.endCall_eq, ← h]
  rfl

/-- A call answered with 14 bytes, `ack` 1 and `error` 0 completes with its own effect (R75, R76). -/
theorem exec_call_of_success {c : Call} {s : State} {b : Bytes} (hs : s.phase = .idle)
    (ha : s.answerTo c.command = .bytes b) (hb : b.length = 14) (hack : fbit b 104 = 1) (herror : fbit b 105 = 0) :
    exec c.instr s = .next ((s.handOver c.command).drawn.deliver c.op (c.success (responseAt b))) := by
  rw [exec_call_of_bytes hs ha, c.outcome_of_success hb hack herror,
    State.endCall_of_idle (s := (s.handOver c.command).drawn) hs]

end Sys2Proof.Machine
end

section
/-! PROOFS. The obligations of the family of 42_bridge_ops.md. -/

namespace Sys2Proof.Proofs

open Sys2Proof Sys2Proof.Machine

/-- Settles O26: the command written out, and the call settled by its answer. -/
theorem readOutcome : Obligations.ReadOutcome := by
  intro a s hs
  have h := exec_call_settled (.read a) hs
  rwa [Call.command_read] at h

/-- Settles O27: the command written out, `le32` undoing `unle32` on the bytes given, and the call settled by its
answer. -/
theorem writeOutcome : Obligations.WriteOutcome := by
  intro a d0 d1 d2 d3 s hs
  have h := exec_call_settled (.write a ⟨d0, d1, d2, d3⟩) hs
  rwa [Call.command_write] at h

/-- Settles O28: the frame handed over as it is, and the transfer settled by its answer (Log 10). -/
theorem xferOutcome : Obligations.XferOutcome :=
  fun out _ hs => exec_xfer_settled out hs

/-- Settles O36: a call depends on its answer through the outcome alone, and the outcome on the bits named alone. -/
theorem uncheckedResponseBitsDoNotMatter : Obligations.UncheckedResponseBitsDoNotMatter := by
  refine fun s r r' rest hr hr' => ⟨fun h a => ?_, fun ⟨hack, herror⟩ a d => ?_⟩
  · exact exec_call_congr_answer (expectedResult_read_congr (hr.trans hr'.symm) h a) rest s
  · exact exec_call_congr_answer (expectedResult_write_congr (hr.trans hr'.symm) hack herror a d) rest s

/-- Settles O40: a step from Transfer is the rest of the call or of the `XFER` (Log 10), settled by the next answer. -/
theorem waitingChangesNoOutcome : Obligations.WaitingChangesNoOutcome := by
  refine ⟨fun s c out h => ?_, fun s out h => ?_⟩
  · rw [step_of_busy (by simp [h]), State.continueCall_of_call h]
  · rw [step_of_busy (by simp [h]), State.continueCall_of_xfer h]

/-- Settles O25: the Bridge constructed and named as the result (Log 4, Log 16). -/
theorem newConstructsAnIdleBridge : Obligations.NewConstructsAnIdleBridge := by
  intro t s
  rw [exec_newBridge]
  rfl

/-- Settles O29: a call completes with its own effect, and an `XFER` of its own (Log 10) with the buffer. -/
theorem transfersComplete : Obligations.TransfersComplete := by
  refine ⟨fun a s r hs ha hr hack herror => ?_, fun a d s r hs ha hr hack herror => ?_, fun out s r hs ha => ?_⟩
  · have h := exec_call_of_success (c := .read a) hs ha hr hack herror
    rwa [Call.success_read] at h
  · exact exec_call_of_success (c := .write a d) hs ha hr hack herror
  · have h := exec_xfer_settled out hs
    rw [ha] at h
    exact h.trans (congrArg _ (State.endCall_of_idle (s := (s.handOver out).drawn) hs .xfer (.received r)))

/-- Settles O30: one clause for each case of step 4. -/
theorem validateTestsAckFirst : Obligations.ValidateTestsAckFirst := by
  intro s c rsp h
  rw [step_of_busy (by simp [h])]
  refine ⟨fun hack => ?_, fun hack herror => ?_, fun hack herror => ?_⟩
  · exact congrArg _ (State.continueCall_of_validate_error h (validate_missingAck hack))
  · exact congrArg _ (State.continueCall_of_validate_error h (validate_payloadError hack herror))
  · exact congrArg _ (State.continueCall_of_validate_ok h (validate_ok hack herror))

end Sys2Proof.Proofs
end

/-! ## Proofs: the family of 60_exceptions.md -/

section
/-! SUPPORT. Which answers each failure comes from (60_exceptions.md R80 to R83), and that a call ends in a failure
exactly where its answer is one of them; where an operation has a next state. -/

namespace Sys2Proof.Machine

open Sys2Proof

/-! ### The answers a failure comes from -/

/-- The answer `x` is one that this failure comes from, no earlier step having failed on it (R80 to R83, R86). -/
def Failure.ArisesFrom (x : Answer) : Failure → Prop
  | .frameError => ∃ b, x = .bytes b ∧ b.length ≠ 14
  | .badWrite => x = .fail
  | .missingAck => ∃ b, x = .bytes b ∧ b.length = 14 ∧ fbit b 104 = 0
  | .payloadError => ∃ b, x = .bytes b ∧ b.length = 14 ∧ fbit b 104 = 1 ∧ fbit b 105 = 1

theorem Call.success_ne_failed (c : Call) (rsp : Response) (f : Failure) : c.success rsp ≠ .failed f := by
  cases c <;> exact Result.noConfusion

/-- The rules give a failure for exactly the answers it comes from; so no answer is one of two failures' (R86). -/
theorem expectedResult_eq_failed_iff (c : Call) (x : Answer) (f : Failure) :
    expectedResult c x = some (.failed f) ↔ f.ArisesFrom x := by
  cases x with
  | pending | fail => cases f <;> simp [expectedResult, Failure.ArisesFrom]
  | bytes b =>
    rw [expectedResult_bytes]
    by_cases hb : b.length = 14
    case neg => cases f <;> simp [Failure.ArisesFrom, c.outcome_of_length_ne hb, hb]
    obtain hack | hack := (fbit b 104).eq_zero_or_eq_one
    · cases f <;> simp [Failure.ArisesFrom, c.outcome_of_missingAck hb hack, hb, hack]
    obtain herror | herror := (fbit b 105).eq_zero_or_eq_one
    · cases f <;>
        simp [Failure.ArisesFrom, c.outcome_of_success hb hack herror, c.success_ne_failed, hb, hack, herror]
    · cases f <;> simp [Failure.ArisesFrom, c.outcome_of_payloadError hb hack herror, hb, hack, herror]

/-! ### An answer ends what it answers (R98) -/

theorem expectedResult_of_ne_pending (c : Call) {x : Answer} (hx : x ≠ .pending) :
    ∃ r, expectedResult c x = some r := by
  cases x with
  | pending => exact absurd rfl hx
  | fail => exact ⟨_, rfl⟩
  | bytes b => exact ⟨_, expectedResult_bytes c b⟩

theorem expectedTransfer_of_ne_pending {x : Answer} (hx : x ≠ .pending) : ∃ r, expectedTransfer x = some r := by
  cases x with
  | pending => exact absurd rfl hx
  | fail | bytes b => exact ⟨_, rfl⟩

theorem State.continueCall_phase_of_answer {s : State} {call : Option Call} {out : Bytes}
    (h : s.phase = .transfer call out) (ha : s.nextAnswer ≠ .pending) : s.continueCall.phase = .idle := by
  cases call with
  | none =>
    obtain ⟨r, hr⟩ := expectedTransfer_of_ne_pending ha
    rw [State.continueCall_of_xfer h, hr]
    rfl
  | some c =>
    obtain ⟨r, hr⟩ := expectedResult_of_ne_pending c ha
    rw [State.continueCall_of_call h, hr]
    rfl

/-! ### The result a call ends with -/

theorem exec_call_of_expected {c : Call} {s : State} {r : Result} (hs : s.phase = .idle)
    (hr : expectedResult c (s.answerTo c.command) = some r) :
    exec c.instr s = .next ((s.handOver c.command).drawn.endCall c.op r) := by
  rw [exec_call_settled c hs, hr]
  rfl

/-- The result a call adds is the one the rules give for its answer; a call still waiting adds none. -/
theorem exec_call_results_iff {c : Call} {s t : State} (hs : s.phase = .idle) (h : exec c.instr s = .next t)
    (r : Result) :
    t.results = s.results ++ [(c.op, r)] ↔ expectedResult c (s.answerTo c.command) = some r := by
  rw [exec_call_settled c hs] at h
  cases h
  cases expectedResult c (s.answerTo c.command) with
  | none | some x => simp [State.settled, State.handOver]

theorem exec_call_failed_iff {c : Call} {s t : State} (hs : s.phase = .idle) (h : exec c.instr s = .next t)
    (f : Failure) :
    t.results = s.results ++ [(c.op, .failed f)] ↔ f.ArisesFrom (s.answerTo c.command) :=
  (exec_call_results_iff hs h _).trans (expectedResult_eq_failed_iff ..)

theorem exec_call_of_arisesFrom {c : Call} {s : State} {f : Failure} (hs : s.phase = .idle)
    (hf : f.ArisesFrom (s.answerTo c.command)) :
    exec c.instr s = .next ((s.handOver c.command).drawn.endCall c.op (.failed f)) :=
  exec_call_of_expected hs ((expectedResult_eq_failed_iff ..).2 hf)

/-- The one state a failed call leaves: nothing of the answer is recorded in it (R82, R83, R87). -/
theorem exec_call_eq_failed_iff {c : Call} {s : State} (hs : s.phase = .idle) (f : Failure) :
    exec c.instr s = .next ((s.handOver c.command).drawn.deliver c.op (.failed f)) ↔
      f.ArisesFrom (s.answerTo c.command) := by
  refine ⟨fun h => (exec_call_failed_iff hs h f).1 rfl, fun hf => ?_⟩
  rw [exec_call_of_arisesFrom hs hf, State.endCall_of_idle (s := (s.handOver c.command).drawn) hs]

/-! ### Where an operation has a next state, and where it is refused -/

theorem exec_next_of_idle (i : Instr) {s : State} (h : s.phase = .idle) : ∃ t, exec i s = .next t := by
  obtain hc | ⟨k, rfl⟩ | ⟨out, rfl⟩ | ⟨c, rfl⟩ := i.kind_cases
  · obtain ⟨r, hr⟩ := exec_codec hc
    exact ⟨_, hr s⟩
  · exact ⟨_, exec_newBridge k s⟩
  · exact ⟨_, exec_xfer_of_idle out h⟩
  · exact ⟨_, exec_call_of_idle c h⟩

theorem exec_xfer_of_busy (out : Bytes) {s : State} (h : s.phase ≠ .idle) :
    exec (.xfer out) s = .refused .callInProgress :=
  if_neg h

end Sys2Proof.Machine
end

section
/-! PROOFS. The obligations of the family of 60_exceptions.md. -/

namespace Sys2Proof.Proofs

open Sys2Proof Sys2Proof.Machine

/-- Settles O31: each failure's answer excludes those of the steps before it, and every answer gives one result. -/
theorem firstFailureInStepOrderIsReported : Obligations.FirstFailureInStepOrderIsReported := by
  intro c s hs
  have hfail : ∀ f : Failure, f.ArisesFrom (s.answerTo c.command) →
      ∃ t, exec c.instr s = .next t ∧ t.results = s.results ++ [(c.op, .failed f)] :=
    fun f hf => ⟨_, exec_call_of_arisesFrom hs hf, rfl⟩
  refine ⟨hfail .badWrite, fun r ha hr => hfail .frameError ⟨r, ha, hr⟩,
    fun r ha hr hack => hfail .missingAck ⟨r, ha, hr, hack⟩,
    fun r ha hr hack herror => hfail .payloadError ⟨r, ha, hr, hack, herror⟩, fun ha => ?_⟩
  obtain ⟨x, hx⟩ := expectedResult_of_ne_pending c ha
  exact ⟨_, x, exec_call_of_expected hs hx, rfl, rfl⟩

/-- Settles O32: the state a failed call leaves, for `MissingAck`. -/
theorem missingAckExactlyWithoutAck : Obligations.MissingAckExactlyWithoutAck :=
  fun _ _ hs => exec_call_eq_failed_iff hs .missingAck

/-- Settles O33: the state a failed call leaves, for `PayloadError`. -/
theorem payloadErrorExactlyOnAckWithError : Obligations.PayloadErrorExactlyOnAckWithError :=
  fun _ _ hs => exec_call_eq_failed_iff hs .payloadError

/-- Settles O34: the answers the two failures come from; that of `FrameError` does not conform. -/
theorem transportFailuresExactly : Obligations.TransportFailuresExactly := by
  intro c s t hs h
  refine ⟨exec_call_failed_iff hs h .badWrite, exec_call_failed_iff hs h .frameError, fun hconf hres => ?_⟩
  obtain ⟨b, ha, hb⟩ := (exec_call_failed_iff hs h .frameError).1 hres
  rw [ha] at hconf
  exact hb (isFrame_iff.1 hconf)

/-- Settles O35: a codec operation delivers its result and does nothing else; a call that failed had the answer the
failure comes from, and that answer fixes the state it leaves. -/
theorem failureLeavesNothingBehind : Obligations.FailureLeavesNothingBehind := by
  refine ⟨fun i f s t hi h hres => ?_, fun c f s t hs h hres => ?_⟩
  · obtain ⟨r, hr⟩ := exec_codec hi
    rw [hr s] at h
    cases h
    obtain rfl : r = .failed f := by simpa [State.deliver] using hres
    rfl
  · have hf := (exec_call_failed_iff hs h f).1 hres
    rw [exec_call_of_arisesFrom hs hf] at h
    cases h
    rfl

/-- Settles O38: a step from Transfer is the rest of the call, which waits on without an answer and ends with one;
a call or an `XFER` (Log 10) begun in any phase but Idle is refused (Log 13). -/
theorem onlyAnAnswerEndsATransfer : Obligations.OnlyAnAnswerEndsATransfer := by
  intro s call out h
  have hbusy : s.phase ≠ .idle := by simp [h]
  refine ⟨fun ha => ?_, fun ha => ?_, fun a => exec_call_of_busy (.read a) hbusy,
    fun a d => exec_call_of_busy (.write a d) hbusy, fun o => exec_xfer_of_busy o hbusy⟩
  · rw [step_of_busy hbusy, State.continueCall_of_pending h ha .xfer, ← h]
    rfl
  · exact ⟨_, step_of_busy hbusy, State.continueCall_phase_of_answer h ha⟩

/-- Settles O45: idle, every operation a request decodes to has a next state; in progress, a call goes on. -/
theorem onlyAnUndecodableRequestStops : Obligations.OnlyAnUndecodableRequestStops := by
  intro s
  by_cases hp : s.phase = .idle
  case neg => exact .inl ⟨_, step_of_busy hp⟩
  cases hr : s.requests with
  | nil => exact .inl ⟨_, step_of_no_request hp hr⟩
  | cons r rest =>
    cases hd : decode r with
    | error why => exact .inr ⟨r, rest, why, hp, rfl, hd, step_of_undecodable hp hr hd⟩
    | ok i =>
      rw [step_of_request hp hr hd]
      exact .inl (exec_next_of_idle i (s := s.setRequests rest) hp)

end Sys2Proof.Proofs
end

/-! ## Proofs: the family of 70_reset_and_hazards.md -/

section
/-! SUPPORT. The frame in flight (70_reset_and_hazards.md R105, 10_state.md R19): a transfer begins with the frame its
call built, handed over last, and each of the five steps either leaves it in flight as it is or ends its transfer. -/

namespace Sys2Proof.Machine

open Sys2Proof

/-! ### What the frame in flight depends on -/

/-- A phase without a frame in phase Transfer asks nothing of the frames handed over. -/
theorem State.commandUnchanged_of_ne {s : State} (h : ∀ call out, s.phase ≠ .transfer call out) :
    s.commandUnchanged := by
  unfold State.commandUnchanged
  split
  · exact absurd ‹_› (h _ _)
  · trivial

theorem State.commandUnchanged_drawn (s : State) : s.drawn.commandUnchanged ↔ s.commandUnchanged := .rfl

theorem State.commandUnchanged_setRequests (r : List Request) (s : State) :
    (s.setRequests r).commandUnchanged ↔ s.commandUnchanged := .rfl

theorem State.commandUnchanged_deliver (op : Op) (r : Result) (s : State) :
    (s.deliver op r).commandUnchanged ↔ s.commandUnchanged := .rfl

/-- A transfer that begins has handed its frame over last, whatever was handed over before. -/
theorem State.commandUnchanged_beginTransfer {call : Option Call} {out : Bytes}
    (h : ∀ c, call = some c → out = c.command) (s : State) : (s.beginTransfer call out).commandUnchanged :=
  ⟨List.getLast?_concat, h⟩

/-! ### Each of the five steps keeps it -/

theorem State.buildStep_commandUnchanged {s : State} (hs : s.commandUnchanged) : s.buildStep.commandUnchanged := by
  unfold State.buildStep
  split
  next c _ => exact State.commandUnchanged_beginTransfer (fun _ hc => congrArg _ (Option.some.inj hc)) s
  next => exact hs

/-- Without an answer the frame stays in flight as it is; an answer ends its transfer (R98). -/
theorem State.takeAnswer_commandUnchanged {s : State} (hs : s.commandUnchanged) (call : Option Call) (a : Answer) :
    (s.takeAnswer call a).commandUnchanged := by
  cases a with
  | pending => exact hs
  | fail | bytes b => cases call <;> exact State.commandUnchanged_of_ne fun _ _ => Phase.noConfusion

theorem State.transferStep_commandUnchanged {s : State} (hs : s.commandUnchanged) :
    s.transferStep.commandUnchanged := by
  unfold State.transferStep
  split
  · exact State.takeAnswer_commandUnchanged (s.commandUnchanged_drawn.mpr hs) ..
  · exact hs

theorem State.decodeStep_commandUnchanged {s : State} (hs : s.commandUnchanged) : s.decodeStep.commandUnchanged := by
  unfold State.decodeStep
  split
  · split <;> exact State.commandUnchanged_of_ne fun _ _ => Phase.noConfusion
  · exact hs

theorem State.validateStep_commandUnchanged {s : State} (hs : s.commandUnchanged) :
    s.validateStep.commandUnchanged := by
  unfold State.validateStep
  split
  · split <;> exact State.commandUnchanged_of_ne fun _ _ => Phase.noConfusion
  · exact hs

theorem State.returnStep_commandUnchanged {s : State} (hs : s.commandUnchanged) : s.returnStep.commandUnchanged := by
  unfold State.returnStep
  split
  · exact State.commandUnchanged_of_ne fun _ _ => Phase.noConfusion
  · exact hs

/-! ### The rest of a call and the operations keep it -/

theorem State.continueCall_commandUnchanged {s : State} (hs : s.commandUnchanged) :
    s.continueCall.commandUnchanged :=
  State.returnStep_commandUnchanged <| State.validateStep_commandUnchanged <| State.decodeStep_commandUnchanged <|
    State.transferStep_commandUnchanged (State.buildStep_commandUnchanged hs)

/-- A codec operation leaves the frame in flight alone (R15), `NEW` begins idle, and `XFER` (Log 10) and a Bridge call
hand over their own frame. -/
theorem exec_commandUnchanged {i : Instr} {s t : State} (h : exec i s = .next t) (hs : s.commandUnchanged) :
    t.commandUnchanged := by
  obtain ⟨-, r, rfl⟩ | ⟨k, -, rfl⟩ | ⟨out, -, -, rfl⟩ | ⟨c, -, -, rfl⟩ := exec_next_cases h
  · exact (s.commandUnchanged_deliver _ _).mpr hs
  · exact State.commandUnchanged_of_ne fun _ _ => Phase.noConfusion
  · exact State.continueCall_commandUnchanged (s.commandUnchanged_beginTransfer (call := none) nofun)
  · exact State.continueCall_commandUnchanged (State.commandUnchanged_of_ne fun _ _ => Phase.noConfusion)

end Sys2Proof.Machine
end

section
/-! PROOFS. The obligations of the family of 70_reset_and_hazards.md. -/

namespace Sys2Proof.Proofs

open Sys2Proof Sys2Proof.Machine

/-- Settles O46: the operation a step runs, or the rest of the call in progress, keeps the frame in flight (an `XFER`
of its own has one with no call: Log 10). -/
theorem stepKeepsCommandUnchanged : Obligations.StepKeepsCommandUnchanged := by
  intro s t hs h
  obtain ⟨-, -, rfl⟩ | ⟨r, rest, i, -, -, -, hx⟩ | ⟨-, rfl⟩ := step_next_cases h
  · exact hs
  · exact exec_commandUnchanged hx ((s.commandUnchanged_setRequests rest).mpr hs)
  · exact State.continueCall_commandUnchanged hs

/-- Settles O39: in any phase but Idle a call is refused (Log 13), and a step is the rest of the call in progress or
of the `XFER` (Log 10), which touches no request. -/
theorem noCallBeginsDuringAnother : Obligations.NoCallBeginsDuringAnother := by
  intro s hbusy
  exact ⟨fun a => exec_call_of_busy (.read a) hbusy, fun a d => exec_call_of_busy (.write a d) hbusy,
    s.continueCall, step_of_busy hbusy, s.continueCall_frame.requests⟩

end Sys2Proof.Proofs
end
